-- ==== Sys2Proof/Word.lean ====
section
/-! DEFINITION. The words of the VF-430 and the small fixed-size groups of like things it holds: a byte of a bulletin, the
32-bit numbers the manual calls wrapping, a group of four (zones, mark windows) and a group of eight (stations). -/

namespace Sys2Proof

/-- One byte of a bulletin (R4). -/
abbrev Byte := BitVec 8

/-- A wrapping 32-bit number: a row sequence or a counter of the Record Ring (R151, R152). -/
abbrev Word32 := BitVec 32

/-- A group of four like things, numbered 0 to 3: the zones of a section (R37), the mark windows of a page (R164). -/
structure Quad (α : Type) where
  z0 : α
  z1 : α
  z2 : α
  z3 : α
  deriving DecidableEq, Repr

namespace Quad

/-- The same content four times. -/
def all {α : Type} (a : α) : Quad α := ⟨a, a, a, a⟩

/-- The content with the given number. -/
def get {α : Type} (q : Quad α) (i : Fin 4) : α :=
  match i with
  | 0 => q.z0
  | 1 => q.z1
  | 2 => q.z2
  | 3 => q.z3

/-- The group with one content replaced. -/
def set {α : Type} (q : Quad α) (i : Fin 4) (a : α) : Quad α :=
  match i with
  | 0 => { q with z0 := a }
  | 1 => { q with z1 := a }
  | 2 => { q with z2 := a }
  | 3 => { q with z3 := a }

/-- The group of the values of `f` at 0 to 3. -/
def ofFn {α : Type} (f : Fin 4 → α) : Quad α := ⟨f 0, f 1, f 2, f 3⟩

/-- The contents in the order of their numbers. -/
def toList {α : Type} (q : Quad α) : List α := [q.z0, q.z1, q.z2, q.z3]

end Quad

/-- A group of eight like things, numbered 0 to 7: one for each station number (R19). -/
structure Octet (α : Type) where
  s0 : α
  s1 : α
  s2 : α
  s3 : α
  s4 : α
  s5 : α
  s6 : α
  s7 : α
  deriving DecidableEq, Repr

namespace Octet

/-- The same content eight times. -/
def all {α : Type} (a : α) : Octet α := ⟨a, a, a, a, a, a, a, a⟩

/-- The content with the given number. -/
def get {α : Type} (q : Octet α) (i : Fin 8) : α :=
  match i with
  | 0 => q.s0
  | 1 => q.s1
  | 2 => q.s2
  | 3 => q.s3
  | 4 => q.s4
  | 5 => q.s5
  | 6 => q.s6
  | 7 => q.s7

/-- The group with one content replaced. -/
def set {α : Type} (q : Octet α) (i : Fin 8) (a : α) : Octet α :=
  match i with
  | 0 => { q with s0 := a }
  | 1 => { q with s1 := a }
  | 2 => { q with s2 := a }
  | 3 => { q with s3 := a }
  | 4 => { q with s4 := a }
  | 5 => { q with s5 := a }
  | 6 => { q with s6 := a }
  | 7 => { q with s7 := a }

end Octet

/-- The station numbers, lowest first. -/
def stations : List (Fin 8) := [0, 1, 2, 3, 4, 5, 6, 7]

/-- The zone numbers, lowest first. -/
def zones : List (Fin 4) := [0, 1, 2, 3]

end Sys2Proof
end

