-- ==== Sys2Proof/Syntax.lean ====
section
/-! DEFINITION. The commands and events of the VF-430: one constructor of `Instr` for each row of spec/opcode_table.json, with
the operands the row's rule reads from outside the part, and the types of those operands. -/

namespace Sys2Proof

/-- The paver's side of a section (R1). -/
inductive Side where | left | right
  deriving DecidableEq, Repr

/-- The mechanical kind of a section (R1). -/
inductive SectionKind where | main | extension | boltOn
  deriving DecidableEq, Repr

/-- A levelling side's mode (R82). -/
inductive SideMode where | off | manual | autoGrade | autoSlope
  deriving DecidableEq, Repr

/-- The direction a levelling coil moves the tow point (R94). -/
inductive Direction where | raise | lower
  deriving DecidableEq, Repr

/-- The two feed drives of a feed owner (R117). -/
inductive Drive where | conveyor | auger
  deriving DecidableEq, Repr

/-- A feed drive's mode (R117). -/
inductive DriveMode where | off | manual | auto
  deriving DecidableEq, Repr

/-- The option a PARK carries (R174). -/
inductive ParkOption where | warm | cold
  deriving DecidableEq, Repr

/-- The five settings pages (R163). -/
inductive PageKind where | heat | level | feed | record | travel
  deriving DecidableEq, Repr

/-- The kinds that have a slot in the peer table (R19). -/
inductive PeerKind where | travel | height | demand | level | status
  deriving DecidableEq, Repr

/-- How a send of this station ends (R7). -/
inductive SendResult where | success | mismatch | missingEcho
  deriving DecidableEq, Repr

/-- The two sensors of a levelling station (R83). -/
inductive LevellingSensor where | grade | slope
  deriving DecidableEq, Repr

/-- The two sensors the Feed Controller reads (R118). -/
inductive FeedSensor where | level | tunnel
  deriving DecidableEq, Repr

/-- What a sensor line gives: a report that the sensor is open, or a number in the sensor's unit. -/
inductive Reading where
  | openCircuit
  | value (v : Int)
  deriving DecidableEq, Repr

/-- The fields of a HEAT page as a SETTINGS bulletin carries them (Section 12.4), before the clamping of R165. -/
structure HeatFields where
  capacity : Nat
  setpoint : Nat
  band : Nat
  parkSetpoint : Nat
  nominalVoltage : Nat
  sagPercent : Nat
  zoneOrder : Nat
  deriving DecidableEq, Repr

/-- The fields of a LEVEL page as carried. -/
structure LevelFields where
  gradeDeadband : Nat
  slopeDeadband : Nat
  gradeGain : Nat
  slopeGain : Nat
  minPulse : Nat
  deadTime : Nat
  settleDistance : Nat
  resumePolicy : Nat
  restartChoice : Nat
  deriving DecidableEq, Repr

/-- The feed law's fields for one drive. -/
structure FeedGains where
  kff : Nat
  kl : Nat
  setpoint : Nat
  deriving DecidableEq, Repr

/-- The fields of a FEED page as carried. -/
structure FeedFields where
  conveyor : FeedGains
  auger : FeedGains
  boost : Nat
  stallTime : Nat
  deriving DecidableEq, Repr

/-- The fields of one mark window (R145, R164). -/
structure MarkWindow where
  enabled : Bool
  tag : Nat
  start : Nat
  length : Nat
  deriving DecidableEq, Repr

/-- The fields of a RECORD page as carried. -/
structure RecordFields where
  rowStep : Nat
  ringMode : Nat
  coldThreshold : Nat
  windows : Quad MarkWindow
  deriving DecidableEq, Repr

/-- The fields of a TRAVEL page as carried. -/
structure TravelFields where
  pulsesPerMetre : Nat
  stopTime : Nat
  deriving DecidableEq, Repr

/-- What a SETTINGS bulletin names and carries (R163). -/
inductive SettingsFields where
  | heat (f : HeatFields)
  | level (f : LevelFields)
  | feed (f : FeedFields)
  | record (f : RecordFields)
  | travel (f : TravelFields)
  deriving DecidableEq, Repr

/-- The commands and events the part takes, one for each row of the table of operations and events. A command that a console
sends carries the sender's number where its rule records it; an event of the local wiring carries what the wiring shows; an
expiry of one of the part's own timers carries only what names the timer. A command's own row arrives addressed to this station:
DESIGN CHOICE (assumption 26), safe. -/
inductive Instr where
  /-- The line is free and the LIF may begin (R6). DESIGN CHOICE (assumption 5), unsafe for when a bulletin begins. -/
  | bulletinBegin
  /-- While the contention field is sent, the class and sender read back are these (R6). DESIGN CHOICE (assumption 6). -/
  | contentionLost (cls : Fin 8) (sender : Fin 16)
  /-- The send of this station ends with this outcome (R7, R15). -/
  | sendComplete (result : SendResult)
  /-- The quiet timer expires (R18). -/
  | quietTimerExpiry
  /-- A bulletin of another party ends: its bytes from the header to the checksum, fewer when it was cut off (R9). -/
  | bulletinReceived (bytes : List Byte)
  /-- The duplicate timer expires (R11). -/
  | duplicateTimerExpiry
  /-- The age of a peer's slot passes its limit (R20). -/
  | peerSlotStale (station : Fin 8) (kind : PeerKind)
  /-- The TRAVEL cadence timer expires (R35). -/
  | travelCadence
  /-- The HEIGHT cadence timer expires (R102). -/
  | heightCadence
  /-- The LEVEL cadence timer expires (R129). -/
  | levelCadence
  /-- The STATUS cadence timer expires (R171). -/
  | statusCadence
  /-- The encoder channels change to this level pair, the pairs being numbered in the forward order (R23). DESIGN CHOICE (assumption
  9), safe. -/
  | encoderChange (pair : Fin 4)
  /-- The speed timer expires (R27). -/
  | speedTimerExpiry
  /-- The stop timer expires (R29). -/
  | stopTimerExpiry
  /-- A REBASE with its chainage value (R33). -/
  | rebase (value : Word32)
  /-- A supply zero crossing, with the RMS volts of the window so far and each zone's highest current of the slot that ends,
  in mA (R43, R47, R54). DESIGN CHOICE of the units (assumption 10), unsafe within one unit of a threshold. -/
  | zeroCrossing (rms : Nat) (peak : Quad Nat)
  /-- The supply timer expires (R45). -/
  | supplyTimerExpiry
  /-- The idle demand timer expires (R69). -/
  | idleDemandTimerExpiry
  /-- The plate sensor timer expires, with what the four plate sensors read, in whole °C (R38). DESIGN CHOICE (assumptions 4 and 11). -/
  | heatSensorTimerExpiry (samples : Quad Reading)
  /-- A zone's switch current reaches this many mA (R53). -/
  | zoneOvercurrent (zone : Fin 4) (current : Nat)
  /-- The earth-leakage input changes to this level, `true` being active (R55). DESIGN CHOICE (assumption 8), safe. -/
  | leakageInputActive (active : Bool)
  /-- A MODE with function HEATING (R42). -/
  | modeHeating (sender : Fin 16) (on : Bool)
  /-- A CLEAR with function HEATING (R57). -/
  | clearHeating (sender : Fin 16)
  /-- A SHED-ALL (R74). -/
  | shedAll
  /-- A RESTORE (R77). -/
  | restore
  /-- A grade or slope sensor reading, in 0.1 mm or 0.01 % (R83). -/
  | gradeSlopeReading (sensor : LevellingSensor) (reading : Reading)
  /-- A grade or slope sensor's silence timer expires (R83). -/
  | gradeSlopeSilenceExpiry (sensor : LevellingSensor)
  /-- The valve period timer expires (R92). -/
  | periodStart
  /-- The running pulse reaches its end time (R96). -/
  | pulseEnd
  /-- The dead-time timer expires (R96). -/
  | deadTimeExpiry
  /-- A MODE with function LEVELLING (R85). -/
  | modeLevelling (sender : Fin 16) (mode : SideMode)
  /-- A JOG with its direction and its length in ms (R98). -/
  | jog (sender : Fin 16) (direction : Direction) (length : Nat)
  /-- A MODE with function CONVEYOR or AUGER, and its command (R119). -/
  | modeConveyorAuger (sender : Fin 16) (drive : Drive) (mode : DriveMode) (command : Nat)
  /-- A level or tunnel sensor reading, in whole % (R118). -/
  | feedLevelReading (sensor : FeedSensor) (reading : Reading)
  /-- A level or tunnel sensor's silence timer expires (R118). -/
  | feedSensorSilenceExpiry (sensor : FeedSensor)
  /-- The control period timer expires (R121). -/
  | controlPeriod
  /-- A drive's hold timer expires (R127). -/
  | holdTimerExpiry (drive : Drive)
  /-- A drive's speed pulse (R125). -/
  | driveSpeedPulse (drive : Drive)
  /-- 6553.5 ms have passed since a drive's last speed pulse (R125). -/
  | speedCaptureTimeout (drive : Drive)
  /-- A drive's stall timer expires (R126). -/
  | stallTimerExpiry (drive : Drive)
  /-- A width sensor reading, in whole cm (R3). -/
  | widthReading (reading : Reading)
  /-- A scanner sweep: its status and its sixteen spot values in °C (R133). DESIGN CHOICE on other lengths (assumption 37), safe. -/
  | sweep (good : Bool) (spots : List Int)
  /-- The scanner's silence timer expires (R133). -/
  | scannerSilenceExpiry
  /-- A COLLECT with its first sequence and count (R157). -/
  | collect (sender : Fin 16) (first : Word32) (count : Nat)
  /-- A RELEASE with its sequence (R160). -/
  | release (upto : Word32)
  /-- A SETTINGS with the page it carries (R163). -/
  | settings (fields : SettingsFields)
  /-- A held page's age passes 10 s (R166). -/
  | pageAgeExpiry (page : PageKind)
  /-- A PARK with its option (R174). -/
  | park (sender : Fin 16) (option : ParkOption)
  /-- A WAKE (R177). -/
  | wake
  /-- The waking timer expires (R177). -/
  | wakingTimerExpiry
  /-- A RESTART (R178). -/
  | restart
  /-- The 10 ms of a RESTART command are over (R178). -/
  | restartTimerExpiry
  /-- The restart pin goes active (R178). -/
  | restartPinActive
  /-- The restart pin goes inactive (R178). -/
  | restartPinInactive
  /-- The part's supply falls below its operating level (R179). -/
  | powerOnResetAssert
  /-- The part's supply has been within its level for 50 ms; the levels of the eighteen strap pins, the station number's three
  pins lowest and then in the order of the table of Section 12.5 (R179, R1). -/
  | powerOnResetRelease (straps : BitVec 18)
  deriving DecidableEq, Repr

end Sys2Proof
end

