-- ==== Sys2Proof/Decode.lean ====
section
/-! DEFINITION. The command a word of the table's bits spells. spec/opcode_table.json gives no row any bits, so no word spells a
command. The decoding of a bulletin's bytes is in Sys2Proof/Machine/Formats.lean and Sys2Proof/Machine/Bulletins.lean. -/

namespace Sys2Proof

/-- The command that the low `nbits` bits of `w` spell: none, since the table gives no row any bits. -/
def decodeTableWord (_nbits _w : Nat) : Option Instr := none

end Sys2Proof
end

