-- ==== Sys2Proof/Config.lean ====
section
/-! DEFINITION. What the manual fixes as a constant of the part (its periods, limits and ranges) and what it leaves open (one
free value, with no body, so that nothing in Lean can know it). Times are counted in ticks of the model's clock, 0.1 ms. -/

namespace Sys2Proof.Config

/-- The clock ticks of a time in milliseconds: the clock counts 0.1 ms, the finest time the manual measures (R125). -/
def ms (n : Nat) : Nat := 10 * n

/-- The longest payload of a good bulletin, in bytes (R9). -/
def maxPayload : Nat := 48

/-- The line error count at which the LIF goes QUIET (R17). -/
def quietErrors : Nat := 32

/-- The quiet timer's time (R18). -/
def quietTime : Nat := ms 1000

/-- The duplicate timer's time (R11). -/
def duplicateTime : Nat := ms 5000

/-- The receive error count's maximum (R9). -/
def maxReceiveErrors : Nat := 65535

/-- The age limits of the peer table (R19). -/
def travelAge : Nat := ms 300
def heightAge : Nat := ms 300
def demandAge : Nat := ms 2500
def levelAge : Nat := ms 1500
def statusAge : Nat := ms 5000

/-- The cadences of TRAVEL, HEIGHT, LEVEL and STATUS, and the idle DEMAND period (R16). -/
def travelCadence : Nat := ms 100
def heightCadence : Nat := ms 100
def levelCadence : Nat := ms 500
def statusCadence : Nat := ms 1000
def idleDemandTime : Nat := ms 1000

/-- The highest chainage, in cm (R22), and the highest value a REBASE sets (R33). -/
def maxChainage : Nat := 2147483647
def maxRebase : Nat := 100000000

/-- The margin of the travel states, in cm (R28). -/
def travelMargin : Nat := 5

/-- The speed timer's period (R27). -/
def speedPeriod : Nat := ms 100

/-- The net pulse count's limit and the speed's limit (R27). -/
def maxNetPulses : Int := 32767
def maxSpeed : Int := 250

/-- The plate sensor timer's period (R38). -/
def heatSensorPeriod : Nat := ms 100

/-- The supply timer's time (R43), and the shortest and longest good spacing of two crossings (R46). -/
def supplyTime : Nat := ms 100
def minSpacing : Nat := ms 14
def maxSpacing : Nat := ms 25

/-- The run of well-spaced crossings that starts a window (R46), and the slots of a window (R44). -/
def startRun : Nat := 10
def windowSlots : Nat := 50

/-- The live duty from which a zone is tested for OPEN, and the count that trips it (R54). -/
def openTestDuty : Nat := 5
def openTripCount : Nat := 3

/-- The plate temperature that trips OVERTEMP, and the one below which that trip clears (R55, R57). -/
def overtempTrip : Int := 220
def overtempClear : Int := 200

/-- The shed factor's ends (R71). -/
def minShedFactor : Nat := 32
def maxShedFactor : Nat := 256

/-- The highest demand a peer's content is entered with (R63). -/
def maxPeerDemand : Nat := 1200

/-- The levelling references' and readings' limit (R82, R83), and the sensors' silence time (R83). -/
def maxReference : Int := 1000
def levellingSilence : Nat := ms 200

/-- The valve period (R92), and the dead time used without a page (R94). -/
def valvePeriod : Nat := ms 100
def defaultDeadTime : Nat := ms 500

/-- The settle distance used without a page, in cm (R108). -/
def defaultSettle : Nat := 200

/-- The feed sensors' silence time (R118), the control period (R121) and the rate limit (R124). -/
def feedSilence : Nat := ms 300
def controlPeriod : Nat := ms 100
def rateLimit : Nat := 50

/-- The command from which a drive is watched for a stall, and the stall time used without a page (R126). -/
def stallCommand : Nat := 200
def defaultStallTime : Nat := ms 5000

/-- The hold timer's time (R117) and the longest captured period, in 0.1 ms (R125). -/
def holdTime : Nat := ms 5000
def maxCapture : Nat := 65535

/-- The scanner's silence time (R133) and the limit of a row's counts (R134). -/
def scannerSilence : Nat := ms 500
def maxCount : Nat := 65535

/-- The rows the ring holds (R151) and the rows one collection serves (R157). -/
def ringRows : Nat := 512
def collectRows : Nat := 16

/-- The age at which a held page is stale (R166). -/
def pageAge : Nat := ms 10000

/-- The codes a STATUS lists at most (R171). -/
def listedAlarms : Nat := 12

/-- The waking time (R173), the time a RESTART command asserts the restart (R178), and the time the supply must have been
within its level before power-on reset is released (R179). -/
def wakingTime : Nat := ms 5000
def restartTime : Nat := ms 10
def powerOnTime : Nat := ms 50

/-- The parts of a payload that the layouts of Sections 12.3 give a place but, while what they carry is absent, no value. -/
inductive AbsentField where
  | stopChainage | resumeEpoch | nestedStops | stopFault | outcomeKind | outcomeFunction | outcomeRefused
  | outcomeSender | outcomeReason | firstSent | newest
  deriving DecidableEq, Repr

/-- FREE VALUE: what the part puts in such a place. The manual gives neither a sentinel nor a presence rule that says which
bits travel there (assumption 19). -/
opaque absentField : AbsentField → Nat

end Sys2Proof.Config
end

