-- ==== Sys2Proof/Machine/Records.lean ====
section
/-! DEFINITION. The records of the eleven blocks, as plain data: the types of everything State holds. Each structure names the
rule that gives its fields. A timer is held as the clock reading at which it expires, `none` when it is stopped. -/

namespace Sys2Proof.Machine

/-! ## The strap record (R1) -/

/-- What Station Identity sampled: the fields of R1 as the pins gave them, and whether a pin pattern was ignored (R2). -/
structure Straps where
  station : Fin 8
  side : Side
  kind : SectionKind
  /-- The section kind pattern named no kind. -/
  kindIgnored : Bool
  /-- Zones fitted, 0 to 4. -/
  fitted : Nat
  /-- The zones fitted pattern was above 4. -/
  fittedIgnored : Bool
  /-- The element rating R, in 10 W. -/
  rating : Nat
  /-- The maximum width Wmax, in cm. -/
  maxWidth : Nat
  encoder : Bool
  /-- The tow cylinder strap, before R2 honours it. -/
  towStrap : Bool
  /-- The feed owner strap, before R2 honours it. -/
  ownerStrap : Bool
  scanner : Bool
  levelSensor : Bool
  deriving DecidableEq, Repr

/-- Station Identity: the strap record and the last valid width reading since the last reset (R1, R3). -/
structure Identity where
  straps : Straps
  width : Option Nat
  deriving DecidableEq, Repr

/-! ## What travels on the line -/

/-- The travel states (R22). -/
inductive TravelState where | paving | stopped | reversing | lost
  deriving DecidableEq, Repr

/-- The station heating state (R40). -/
inductive HeatingState where | active | parkWarm | parkCold | noSettings | off | shed | shedding | noSupply
  deriving DecidableEq, Repr

/-- The content of a TRAVEL (R35). -/
structure TravelContent where
  chainage : Nat
  epoch : BitVec 8
  speed : Int
  state : TravelState
  counts : Bool
  deriving DecidableEq, Repr

/-- The content of a DEMAND (R68). -/
structure DemandContent where
  demand : Nat
  heating : HeatingState
  factor : Nat
  total : Nat
  deriving DecidableEq, Repr

/-- The content of a SHED-ACK (R76). -/
structure ShedAckContent where
  heating : HeatingState
  windowRunning : Bool
  deriving DecidableEq, Repr

/-- The content of a HEIGHT (R102). The fields that no reader of a peer's HEIGHT uses are held as the codes of Section 12.2,
since a peer's are entered as received (R183). -/
structure HeightContent where
  side : Side
  mode : SideMode
  condition : Nat
  holdCause : Nat
  partner : Nat
  driver : Nat
  gradeFault : Bool
  slopeFault : Bool
  grade : Option Int
  slope : Option Int
  reference : Option Int
  deriving DecidableEq, Repr

/-- What a LEVEL's owner part says of one drive, with the codes of Section 12.2 (R129). -/
structure DriveReport where
  mode : Nat
  condition : Nat
  command : Nat
  period : Option Nat
  deriving DecidableEq, Repr

/-- The owner part of a LEVEL (R129). -/
structure OwnerPart where
  conveyor : DriveReport
  auger : DriveReport
  edgeColdUsed : Bool
  /-- The auger source: a station number, or 15 for the tunnel sensor. -/
  source : Nat
  tunnel : Option Nat
  tunnelFault : Bool
  deriving DecidableEq, Repr

/-- The content of a LEVEL (R129). -/
structure LevelContent where
  side : Side
  kind : SectionKind
  level : Option Nat
  valid : Bool
  edgeCold : Bool
  owner : Option OwnerPart
  deriving DecidableEq, Repr

/-- The part of a STATUS that a valid resume record gives (R105, R171). -/
structure ResumeReport where
  chainage : Nat
  epoch : Nat
  /-- The reading at stop, with whether its sensor was in FAULT. -/
  reading : Option (Int × Bool)
  movePending : Bool
  nested : Nat
  deriving DecidableEq, Repr

/-- The part of a STATUS that a last command outcome gives, with the codes of Section 12.3 (R168, R171). -/
structure OutcomeReport where
  kind : Nat
  function : Option Nat
  sender : Nat
  refused : Bool
  reason : Nat
  deriving DecidableEq, Repr

/-- The content of a STATUS (R171), with the codes of Sections 12.2 and 12.3 for its named values: no reader of the peer table
uses a field of it, so a peer's are entered as received (R183). -/
structure StatusContent where
  station : Nat
  resetCause : Nat
  parkOption : Nat
  heatingOn : Bool
  rowOpen : Bool
  encoder : Bool
  tow : Bool
  owner : Bool
  scanner : Bool
  levelSensor : Bool
  fitted : Nat
  heating : Nat
  shedStanding : Bool
  shedStatus : Nat
  ack : Nat
  zones : Quad Nat
  sideMode : Nat
  condition : Nat
  holdCause : Nat
  partner : Nat
  resume : Option ResumeReport
  conveyorMode : Nat
  conveyorCondition : Nat
  augerMode : Nat
  augerCondition : Nat
  travelState : Nat
  source : Nat
  sourceChanges : Nat
  heatPending : Bool
  levelPending : Bool
  feedPending : Bool
  recordPending : Bool
  /-- The held pages: HEAT, LEVEL, FEED, RECORD and TRAVEL at 16, 8, 4, 2 and 1. -/
  held : Nat
  stale : Nat
  ringCount : Nat
  dropped : Nat
  overwritten : Nat
  /-- The open row's start chainage, 0 when no row is open. -/
  rowStart : Nat
  receiveErrors : Nat
  /-- The heard set: station n at 2^n. -/
  heard : Nat
  serial : Nat
  outcome : Option OutcomeReport
  overflow : Bool
  alarms : List Nat
  deriving DecidableEq, Repr

/-- Why a row closed (R139 to R141). -/
inductive CloseCause where | step | park | rebase
  deriving DecidableEq, Repr

/-- The five flags of a row (R134). -/
structure RowFlags where
  shedSeen : Bool
  tripSeen : Bool
  stopInside : Bool
  reverseInside : Bool
  scannerFault : Bool
  deriving DecidableEq, Repr

/-- A closed row (R146). A cell that carries no reading is `none`. -/
structure Row where
  epoch : BitVec 8
  start : Nat
  length : Nat
  cause : CloseCause
  width : Nat
  cells : List (Option Int)
  minimum : Option Int
  cold : Nat
  mark : Nat
  speed : Int
  plate : Option Int
  height : Option Int
  flags : RowFlags
  /-- The stopped time, in whole seconds. -/
  stopped : Nat
  deriving DecidableEq, Repr

/-- A row the ring holds: a row and the sequence the ring gave it (R151). -/
structure HeldRow where
  seq : Word32
  row : Row
  deriving DecidableEq, Repr

/-- The content of a RECORD (R158). -/
structure RecordContent where
  requester : Fin 16
  held : HeldRow
  deriving DecidableEq, Repr

/-- How a COLLECT was answered (R159). -/
inductive CollectOutcome where | done | busy | empty
  deriving DecidableEq, Repr

/-- The content of a COLLECT-END (R159). -/
structure CollectEndContent where
  requester : Fin 16
  outcome : CollectOutcome
  firstAsked : Word32
  firstSent : Option Word32
  sent : Nat
  skipped : Nat
  oldest : Word32
  newest : Option Word32
  overwritten : Word32
  dropped : Word32
  closed : Word32
  released : Word32
  deriving DecidableEq, Repr

/-- What a block offers to the line: the content of one bulletin of a station kind (R5). A STATUS carries besides, for the
station's own use, the count of STATUS contents formed before it, by which R170 tells what was raised since. -/
inductive Content where
  | travel (c : TravelContent)
  | height (c : HeightContent)
  | demand (c : DemandContent)
  | level (c : LevelContent)
  | status (c : StatusContent) (formed : Nat)
  | shedAck (c : ShedAckContent)
  | record (c : RecordContent)
  | collectEnd (c : CollectEndContent)
  deriving DecidableEq, Repr

/-- The eight station kinds (R5). -/
inductive StationKind where | travel | height | demand | level | status | shedAck | record | collectEnd
  deriving DecidableEq, Repr

/-! ## The Line Interface -/

/-- A slot of the transmit queue (R12). -/
inductive TxSlot where
  | empty
  | waiting (content : Content) (position : Nat)
  | inFlight (content : Content) (position : Nat) (followOn : Option Content)
  deriving DecidableEq, Repr

/-- The transmit queue: one slot for each station kind, and the next queue position to give (R12). -/
structure TxQueue where
  travel : TxSlot
  height : TxSlot
  demand : TxSlot
  level : TxSlot
  status : TxSlot
  shedAck : TxSlot
  record : TxSlot
  collectEnd : TxSlot
  nextPosition : Nat
  deriving DecidableEq, Repr

/-- A slot of the peer table: its state, its content, and the clock reading at which its age was 0 (R19, R20). -/
inductive PeerSlot (α : Type) where
  | empty
  | fresh (content : α) (since : Nat)
  | stale (content : α)
  deriving DecidableEq, Repr

/-- One peer's entry of the peer table (R19). -/
structure PeerEntry where
  travel : PeerSlot TravelContent
  height : PeerSlot HeightContent
  demand : PeerSlot DemandContent
  level : PeerSlot LevelContent
  status : PeerSlot StatusContent
  deriving DecidableEq, Repr

/-- The line states (R18). -/
inductive LineState where | speaking | quiet
  deriving DecidableEq, Repr

/-- The level of one bit on the line: a dominant bit reads as 0 and a recessive bit as 1 (Section 12.1). -/
inductive LineLevel where | dominant | recessive
  deriving DecidableEq, Repr

/-- The Line Interface: transmit queue, peer table, line state and counts (R9, R11, R12, R17 to R19), and what the part drives
on the line: the levels of the bulletin it is sending, from start mark to end mark (R4), and whether it drove the echo field of the
last bulletin received dominant (DESIGN CHOICE, assumption 33, safe). -/
structure Line where
  state : LineState
  errors : Nat
  quietTimer : Option Nat
  receiveErrors : Nat
  duplicateTimer : Option Nat
  queue : TxQueue
  peers : Octet PeerEntry
  sending : Option (List LineLevel)
  echoed : Bool
  deriving DecidableEq, Repr

/-! ## The Travel Unit -/

/-- Where the chainage comes from (R22). -/
inductive Source where
  | own
  | station (n : Fin 8)
  | none
  deriving DecidableEq, Repr

/-- A held TRAVEL page (R164): pulses per metre and the stop time in seconds. -/
structure TravelPage where
  pulsesPerMetre : Nat
  stopTime : Nat
  deriving DecidableEq, Repr

/-- The travel record (R22), the quadrature position (R23) and the Travel Unit's timers. -/
structure Travel where
  chainage : Nat
  epoch : BitVec 8
  remainder : Nat
  state : TravelState
  mark : Nat
  stopTimer : Option Nat
  speed : Int
  /-- The five most recently closed speed bins, latest first. -/
  bins : List Int
  currentBin : Int
  source : Source
  previous : Option (Fin 8)
  sourceChanges : Nat
  /-- The applied TRAVEL page; present when calibrated (R26). -/
  page : Option TravelPage
  /-- The net quadrature steps since the last completed pulse; 0 after a reset is a DESIGN CHOICE (assumption 27), unsafe. -/
  steps : Int
  speedTimer : Option Nat
  cadence : Option Nat
  deriving DecidableEq, Repr

/-! ## The Heater Controller and the Load Share Unit -/

/-- Why a zone tripped (R37). -/
inductive TripCause where | openElement | overcurrent | sensor | overtemp | leakage
  deriving DecidableEq, Repr

/-- A fitted zone's state, with its cause when TRIPPED (R37). -/
inductive ZoneState where
  | idle
  | regulating
  | tripped (cause : TripCause)
  deriving DecidableEq, Repr

/-- A zone record (R37), its output (R51), and whether its current reached 10 % of rated in an on-slot of the window (R54). -/
structure Zone where
  state : ZoneState
  temperature : Option Int
  /-- The sensor status is FAULT. -/
  sensorFault : Bool
  demand : Nat
  duty : Nat
  cut : Bool
  openCount : Nat
  out : Bool
  drew : Bool
  deriving DecidableEq, Repr

/-- The supply condition (R43). -/
inductive SupplyCondition where | starting | running | lost
  deriving DecidableEq, Repr

/-- The order in which a share is allocated (R50). -/
inductive ZoneOrder where | fixed | rotating
  deriving DecidableEq, Repr

/-- A HEAT page (R164). -/
structure HeatPage where
  capacity : Nat
  setpoint : Nat
  band : Nat
  parkSetpoint : Nat
  nominalVoltage : Nat
  sagPercent : Nat
  zoneOrder : ZoneOrder
  deriving DecidableEq, Repr

/-- The Heater Controller: zone records, supply record, heating mode, applied page and rotation start (R37, R42, R43, R52,
R58). -/
structure Heat where
  zones : Quad Zone
  supply : SupplyCondition
  slot : Nat
  runCount : Nat
  lastCrossing : Option Nat
  supplyTimer : Option Nat
  /-- The heating mode is ON. -/
  mode : Bool
  /-- The applied HEAT page. -/
  page : Option HeatPage
  /-- The HEAT pending flag. -/
  pending : Bool
  rotationStart : Fin 4
  sensorTimer : Option Nat
  deriving DecidableEq, Repr

/-- The shed status (R61). -/
inductive ShedStatus where | none | shedding | shed
  deriving DecidableEq, Repr

/-- The acknowledgement (R61). -/
inductive Ack where | notDue | awaitingDemand | waiting | sent
  deriving DecidableEq, Repr

/-- The share record (R61). The applied capacity, nominal voltage and sag % are those of `Heat.page` (R62); DEDUCED (assumption 34), safe. -/
structure Load where
  ownDemand : Nat
  total : Nat
  share : Nat
  factor : Nat
  table : List (Fin 8 × Nat)
  /-- The shed order is STANDING. -/
  standing : Bool
  status : ShedStatus
  ack : Ack
  idleTimer : Option Nat
  deriving DecidableEq, Repr

/-! ## The Levelling Controller -/

/-- A sensor record: the last valid reading, whether the status is FAULT, and the silence timer (R83, R118). -/
structure Sensor where
  last : Option Int
  fault : Bool
  timer : Option Nat
  deriving DecidableEq, Repr

/-- A side's condition (R82). -/
inductive SideCondition where | none | active | hold | frozen | settling
  deriving DecidableEq, Repr

/-- The hold causes present (R88). -/
structure Causes where
  sensor : Bool
  conflict : Bool
  partner : Bool
  deriving DecidableEq, Repr

/-- Who asked for a pulse (R94). -/
inductive Origin where | auto | jog
  deriving DecidableEq, Repr

/-- How a request is timed: by an end time on the clock, or by a length in clock ticks (R95). -/
inductive Timing where
  | until (endAt : Nat)
  | length (ticks : Nat)
  deriving DecidableEq, Repr

/-- A pulse request, or a waiting pulse (R95). -/
structure Request where
  direction : Direction
  origin : Origin
  timing : Timing
  deriving DecidableEq, Repr

/-- A running pulse: its direction, origin and end time on the clock (R94). -/
structure Pulse where
  direction : Direction
  origin : Origin
  endAt : Nat
  deriving DecidableEq, Repr

/-- The coil or coils that dead time blocks (R82). -/
inductive Blocked where
  | one (coil : Direction)
  | both
  deriving DecidableEq, Repr

/-- The valve driver (R94): RAISE and LOWER are `driving`, with the running pulse. -/
inductive Driver where
  | neutral
  | driving (pulse : Pulse)
  | dead (blocked : Blocked) (timer : Option Nat) (waiting : Option Request)
  deriving DecidableEq, Repr

/-- The resume policy and the restart choice (R109, R110). -/
inductive ResumePolicy where | saved | current
  deriving DecidableEq, Repr
inductive RestartChoice where | redo | drop
  deriving DecidableEq, Repr

/-- A LEVEL page (R164). -/
structure LevelPage where
  gradeDeadband : Nat
  slopeDeadband : Nat
  gradeGain : Nat
  slopeGain : Nat
  minPulse : Nat
  deadTime : Nat
  settleDistance : Nat
  resumePolicy : ResumePolicy
  restartChoice : RestartChoice
  deriving DecidableEq, Repr

/-- A valid resume record (R105). -/
structure ResumeRecord where
  chainage : Nat
  epoch : BitVec 8
  reference : Option Int
  /-- The reading at stop, with whether its sensor was in FAULT. -/
  reading : Option (Int × Bool)
  /-- The pending move: a direction and a remaining on-time in ms. -/
  move : Option (Direction × Nat)
  nested : Nat
  deriving DecidableEq, Repr

/-- The side record, the valve driver record, the resume record and the settle fields (R82, R105). -/
structure Levelling where
  mode : SideMode
  condition : SideCondition
  causes : Causes
  gradeRef : Int
  slopeRef : Int
  captured : Bool
  partner : Option (Fin 8)
  grade : Sensor
  slope : Sensor
  page : Option LevelPage
  /-- The LEVEL pending flag. -/
  pending : Bool
  periodTimer : Option Nat
  cadence : Option Nat
  driver : Driver
  /-- The resume record; present when valid. -/
  resume : Option ResumeRecord
  settleMark : Option Nat
  settleCapture : Bool
  redo : Bool
  deriving DecidableEq, Repr

/-! ## The Feed Controller -/

/-- A drive's condition (R117). -/
inductive DriveCondition where | none | driving | sensorHold | sensorRamp | stalled
  deriving DecidableEq, Repr

/-- A drive record (R117). -/
structure DriveRecord where
  mode : DriveMode
  condition : DriveCondition
  command : Nat
  manualTarget : Nat
  stallTimer : Option Nat
  holdTimer : Option Nat
  /-- The captured period, in 0.1 ms. -/
  period : Option Nat
  /-- The clock reading of the last pulse. -/
  lastPulse : Option Nat
  deriving DecidableEq, Repr

/-- A FEED page (R164). -/
structure FeedPage where
  conveyor : FeedGains
  auger : FeedGains
  boost : Nat
  stallTime : Nat
  deriving DecidableEq, Repr

/-- An entry of the side level view (R122). -/
structure ViewEntry where
  station : Fin 8
  kind : SectionKind
  level : Nat
  edgeCold : Bool
  deriving DecidableEq, Repr

/-- Where the auger level comes from (R122). -/
inductive AugerSource where
  | station (n : Fin 8)
  | tunnel
  deriving DecidableEq, Repr

/-- The Feed Controller (R117, R118, R122). -/
structure Feed where
  conveyor : DriveRecord
  auger : DriveRecord
  level : Sensor
  tunnel : Sensor
  page : Option FeedPage
  /-- The FEED pending flag. -/
  pending : Bool
  view : List ViewEntry
  source : AugerSource
  edgeColdUsed : Bool
  periodTimer : Option Nat
  cadence : Option Nat
  deriving DecidableEq, Repr

/-! ## The Row Builder and the Record Ring -/

/-- What the ring does when it is full (R151). -/
inductive RingMode where | wrap | hold
  deriving DecidableEq, Repr

/-- A RECORD page (R164). -/
structure RecordPage where
  rowStep : Nat
  ringMode : RingMode
  coldThreshold : Nat
  windows : Quad MarkWindow
  deriving DecidableEq, Repr

/-- The scanner silence timer (R132). -/
inductive Silence where
  | running (expiry : Nat)
  | expired
  | stopped
  deriving DecidableEq, Repr

/-- The valid samples of one spot in the counted sweeps (R134). -/
structure Cell where
  sum : Int
  count : Nat
  minimum : Option Int
  deriving DecidableEq, Repr

/-- The accumulator of the open row (R134). The stopped time is held in clock ticks: DESIGN CHOICE
(assumption 36), unsafe by less than 1 ms a stretch. -/
structure OpenRow where
  start : Nat
  finish : Nat
  epoch : BitVec 8
  cells : List Cell
  speedSum : Int
  speedCount : Nat
  plateSum : Int
  plateCount : Nat
  sweeps : Nat
  flags : RowFlags
  stoppedTicks : Nat
  stoppedSince : Option Nat
  deriving DecidableEq, Repr

/-- The Row Builder (R132). -/
structure Rows where
  /-- The scanner power is ON. -/
  scannerOn : Bool
  silence : Silence
  openRow : Option OpenRow
  highWater : Option Nat
  continuation : Option Nat
  lastChainage : Nat
  lastEpoch : BitVec 8
  edgeCold : Bool
  coldRun : Nat
  warmRun : Nat
  page : Option RecordPage
  /-- The RECORD pending flag. -/
  pending : Bool
  deriving DecidableEq, Repr

/-- The range of a collection (R156). -/
inductive CollectRange where
  | absent
  | empty
  | span (first last : Word32)
  deriving DecidableEq, Repr

/-- A collection's own COLLECT-END (R156). -/
inductive FinalAnswer where
  | absent
  | owed (outcome : CollectOutcome)
  | offered
  deriving DecidableEq, Repr

/-- An owed BUSY answer (R157). -/
structure BusyAnswer where
  requester : Fin 16
  firstAsked : Word32
  deriving DecidableEq, Repr

/-- The collection record (R156). -/
structure Collection where
  inFlight : Bool
  requester : Option (Fin 16)
  firstAsked : Option Word32
  range : CollectRange
  next : Option Word32
  firstSent : Option Word32
  sent : Nat
  skipped : Nat
  outstanding : Bool
  final : FinalAnswer
  busy : Option BusyAnswer
  answerOutstanding : Bool
  deriving DecidableEq, Repr

/-- The ring record (R151) and the collection record (R156). The count is the number of held rows and the oldest sequence is
the next sequence less the count (R152). -/
structure Ring where
  rows : List HeldRow
  next : Word32
  closed : Word32
  dropped : Word32
  overwritten : Word32
  released : Word32
  mode : RingMode
  collection : Collection
  deriving DecidableEq, Repr

/-! ## The Settings Store and the Station Supervisor -/

/-- A held page: the page, the clock reading at its last arrival, and whether its age has passed 10 s (R163, R166). -/
structure Held (α : Type) where
  page : α
  since : Nat
  stale : Bool
  deriving DecidableEq, Repr

/-- The five slots of the Settings Store (R163). -/
structure Settings where
  heat : Option (Held HeatPage)
  level : Option (Held LevelPage)
  feed : Option (Held FeedPage)
  record : Option (Held RecordPage)
  travel : Option (Held TravelPage)
  deriving DecidableEq, Repr

/-- The station states (R173). -/
inductive StationState where | run | park | parkInquiry | waking
  deriving DecidableEq, Repr

/-- The last reset causes (R173). -/
inductive ResetCause where | powerOn | restartCommand | restartPin
  deriving DecidableEq, Repr

/-- The kinds of a last command outcome (R168). -/
inductive CommandKind where | mode | jog | clear | park
  deriving DecidableEq, Repr

/-- The functions of MODE and CLEAR (R167). -/
inductive CommandFunction where | heating | levelling | conveyor | auger
  deriving DecidableEq, Repr

/-- Why a command was refused (R168, R174). -/
inductive Reason where | noPage | parked | notFitted | strappedOff | sideOff | levellingAuto | feedRunning
  deriving DecidableEq, Repr

/-- A last command outcome (R168): REFUSED with a reason, or ACCEPTED when there is none. -/
structure CommandOutcome where
  kind : CommandKind
  function : Option CommandFunction
  sender : Fin 16
  refused : Option Reason
  deriving DecidableEq, Repr

/-- The event alarms present, each with the count of STATUS contents formed when it was last raised (R170). -/
structure EventAlarms where
  ringOverwrite : Option Nat
  settingsClamped : Option Nat
  lineQuiet : Option Nat
  parkRefused : Option Nat
  deriving DecidableEq, Repr

/-- The Station Supervisor (R168, R170, R173). -/
structure Supervisor where
  station : StationState
  option : Option ParkOption
  wakingTimer : Option Nat
  wakeOwed : Bool
  resetCause : ResetCause
  outcome : Option CommandOutcome
  serial : BitVec 8
  events : EventAlarms
  /-- STATUS contents formed since the last reset (the model's own, assumption 32). -/
  formed : Nat
  cadence : Option Nat
  /-- A block has asked for a STATUS offer within the event being taken (the model's own, assumption 32). -/
  offerDue : Bool
  deriving DecidableEq, Repr

/-- Whether the part is running or under a reset (R178, R179): a warm restart holds the expiry of the 10 ms of a RESTART
command while they run, whether the restart pin holds it, and the cause of its latest assertion; a power-on reset holds when
the supply was last reported below its level. -/
inductive Phase where
  | running
  | warm (timer : Option Nat) (pinHeld : Bool) (cause : ResetCause)
  | powerOn (since : Nat)
  deriving DecidableEq, Repr

/-- The input pins whose level the part reads again later: the encoder's level pair, numbered in the forward order, and the
earth-leakage input. -/
structure Pins where
  encoder : Fin 4
  leakage : Bool
  deriving DecidableEq, Repr

/-! ## Commands from the line -/

/-- What a command bulletin asks once its payload is read (Section 12.4). -/
inductive LineCommand where
  | modeHeating (on : Bool)
  | modeLevelling (mode : SideMode)
  | modeDrive (drive : Drive) (mode : DriveMode) (command : Nat)
  | jog (direction : Direction) (length : Nat)
  | park (option : ParkOption)
  | wake
  | clearHeating
  | rebase (value : Word32)
  | restart
  | shedAll
  | restore
  | settings (fields : SettingsFields)
  | collect (first : Word32) (count : Nat)
  | release (upto : Word32)
  deriving DecidableEq, Repr

/-- A good bulletin as its header gives it, with its payload (R4, Section 12.1). -/
structure Bulletin where
  sender : Fin 16
  kind : Nat
  target : Nat
  payload : List Byte
  deriving DecidableEq, Repr

/-- The content of a peer's bulletin of a kind that has a slot in the peer table (R19). -/
inductive PeerContent where
  | travel (c : TravelContent)
  | height (c : HeightContent)
  | demand (c : DemandContent)
  | level (c : LevelContent)
  | status (c : StatusContent)
  deriving DecidableEq, Repr

end Sys2Proof.Machine
end

