-- ==== Sys2Proof/Machine/ResetValues.lean ====
section
/-! DEFINITION. The sampling of the straps (R1, Section 12.5), the configuration derived from them (R2), and the values each
block takes at a reset, with its timers stopped as they are while the reset is asserted, and with its timers started as they
are at the release (R178, R179). -/

namespace Sys2Proof.Machine

/-! ## Straps -/

/-- The number that `width` strap pins from `low` spell. -/
def strapField (pins : BitVec 18) (low width : Nat) : Nat := pins.toNat / 2 ^ low % 2 ^ width

/-- One strap pin. -/
def strapPin (pins : BitVec 18) (n : Nat) : Bool := strapField pins n 1 == 1

/-- The section kind a pattern names; 11 names none and is taken as BOLT-ON (R2). -/
def kindOfPattern (n : Nat) : SectionKind := if n = 0 then .main else if n = 1 then .extension else .boltOn

/-- The element rating of a code (R1). -/
def ratingOfCode (n : Nat) : Nat := if n = 0 then 100 else if n = 1 then 150 else if n = 2 then 200 else 300

/-- The maximum width of a code (R1). -/
def widthOfCode (n : Nat) : Nat := if n = 0 then 125 else if n = 1 then 150 else if n = 2 then 200 else 250

/-- The strap record that Station Identity samples (R1, R2, Section 12.5). -/
def sampleStraps (pins : BitVec 18) : Straps where
  station := ⟨strapField pins 0 3, Nat.mod_lt _ (by decide)⟩
  side := if strapPin pins 3 then .right else .left
  kind := kindOfPattern (strapField pins 4 2)
  kindIgnored := strapField pins 4 2 == 3
  fitted := min (strapField pins 6 3) 4
  fittedIgnored := decide (4 < strapField pins 6 3)
  rating := ratingOfCode (strapField pins 9 2)
  maxWidth := widthOfCode (strapField pins 11 2)
  encoder := strapPin pins 13
  towStrap := strapPin pins 14
  ownerStrap := strapPin pins 15
  scanner := strapPin pins 16
  levelSensor := strapPin pins 17

/-- The honoured tow cylinder: a levelling station (R2, R81). -/
def Straps.levelling (p : Straps) : Bool := p.towStrap && p.kind == .main

/-- The honoured feed owner: a feed owner station (R2, R116). -/
def Straps.owner (p : Straps) : Bool := p.ownerStrap && p.kind == .main

/-- At least one strap was ignored (R2). -/
def Straps.ignored (p : Straps) : Bool :=
  p.kindIgnored || p.fittedIgnored || (p.kind != .main && (p.towStrap || p.ownerStrap))

/-- A zone is fitted when its number is below the zones fitted (R37). -/
def Straps.zoneFitted (p : Straps) (z : Fin 4) : Bool := decide (z.val < p.fitted)

/-- The offset of a zone's on-slots in the window (R51). -/
def Straps.offset (p : Straps) (z : Fin 4) : Nat :=
  (6 * p.station.val + Config.windowSlots * z.val / p.fitted) % Config.windowSlots

/-! ## The Line Interface (R9, R11, R12, R17 to R19) -/

def TxQueue.cleared : TxQueue := ⟨.empty, .empty, .empty, .empty, .empty, .empty, .empty, .empty, 0⟩

def PeerEntry.cleared : PeerEntry := ⟨.empty, .empty, .empty, .empty, .empty⟩

/-- The Line Interface after either reset. -/
def Line.atReset : Line where
  state := .speaking
  errors := 0
  quietTimer := none
  receiveErrors := 0
  duplicateTimer := none
  queue := .cleared
  peers := .all .cleared
  sending := none
  echoed := false

/-! ## The Travel Unit (R22) -/

/-- The travel record after a reset that leaves this chainage, epoch and remainder, before the release. -/
def Travel.atReset (p : Straps) (chainage : Nat) (epoch : BitVec 8) (remainder : Nat) : Travel where
  chainage := chainage
  epoch := epoch
  remainder := remainder
  state := .stopped
  mark := chainage
  stopTimer := none
  speed := 0
  bins := [0, 0, 0, 0, 0]
  currentBin := 0
  source := if p.encoder then .own else .none
  previous := none
  sourceChanges := 0
  page := none
  steps := 0
  speedTimer := none
  cadence := none

/-- The speed timer of an encoder station (R27) and the cadence timer (R16) start at the release. -/
def Travel.started (t : Travel) (p : Straps) (now : Nat) : Travel :=
  { t with
    speedTimer := if p.encoder then some (now + Config.speedPeriod) else none
    cadence := some (now + Config.travelCadence) }

/-! ## The Heater Controller (R37, R40, R42, R43, R52, R58) -/

/-- A zone record after either reset (R37); the output off and the current not seen are a DESIGN CHOICE (assumption 40). -/
def Zone.atReset : Zone where
  state := .idle
  temperature := none
  sensorFault := false
  demand := 0
  duty := 0
  cut := false
  openCount := 0
  out := false
  drew := false

/-- The Heater Controller after either reset; slot 0 and no last crossing are a DESIGN CHOICE (assumption 40). -/
def Heat.atReset : Heat where
  zones := .all .atReset
  supply := .starting
  slot := 0
  runCount := 0
  lastCrossing := none
  supplyTimer := none
  mode := true
  page := none
  pending := false
  rotationStart := 0
  sensorTimer := none

/-- The supply timer (R43) and the plate sensor timer (R38) start at the release. -/
def Heat.started (h : Heat) (now : Nat) : Heat :=
  { h with
    supplyTimer := some (now + Config.supplyTime)
    sensorTimer := some (now + Config.heatSensorPeriod) }

/-! ## The Load Share Unit (R61) -/

def Load.atReset : Load where
  ownDemand := 0
  total := 0
  share := 0
  factor := Config.maxShedFactor
  table := []
  standing := false
  status := .none
  ack := .notDue
  idleTimer := none

/-- The idle demand timer starts at the release (R69). -/
def Load.started (l : Load) (now : Nat) : Load := { l with idleTimer := some (now + Config.idleDemandTime) }

/-! ## The Levelling Controller (R82, R83, R105) -/

/-- A sensor record after either reset: no reading, FAULT (R83, R118). -/
def Sensor.atReset : Sensor := ⟨none, true, none⟩

/-- The sensor's silence timer starts at the release. -/
def Sensor.started (r : Sensor) (now time : Nat) : Sensor := { r with timer := some (now + time) }

/-- The side and valve driver records after a reset that leaves the driver so. -/
def Levelling.atReset (driver : Driver) : Levelling where
  mode := .off
  condition := .none
  causes := ⟨false, false, false⟩
  gradeRef := 0
  slopeRef := 0
  captured := false
  partner := none
  grade := .atReset
  slope := .atReset
  page := none
  pending := false
  periodTimer := none
  cadence := none
  driver := driver
  resume := none
  settleMark := none
  settleCapture := false
  redo := false

/-- Which coil a driver energises, if any. -/
def Driver.energised : Driver → Option Direction
  | .neutral => none
  | .driving pulse => some pulse.direction
  | .dead _ _ _ => none

/-- The opposite direction. -/
def opposite : Direction → Direction
  | .raise => .lower
  | .lower => .raise

/-- The driver after a power-on reset: DEAD-TIME with both coils blocked on a levelling station (R82). -/
def Driver.atPowerOn (p : Straps) : Driver := if p.levelling then .dead .both none none else .neutral

/-- The driver after a warm restart: NEUTRAL, or DEAD-TIME blocking the opposite of a coil that was energised (R82). -/
def Driver.atWarmRestart (before : Driver) : Driver :=
  match before.energised with
  | none => .neutral
  | some d => .dead (.one (opposite d)) none none

/-- A dead time that stands at the release runs 500 ms from it (R82). -/
def Driver.started (d : Driver) (now : Nat) : Driver :=
  match d with
  | .dead blocked _ waiting => .dead blocked (some (now + Config.defaultDeadTime)) waiting
  | other => other

/-- The silence timers, the valve period timer and the dead-time timer start at the release on a levelling station (R82); the
HEIGHT cadence timer starts on every station (R16). -/
def Levelling.started (l : Levelling) (p : Straps) (now : Nat) : Levelling :=
  if p.levelling then
    { l with
      grade := l.grade.started now Config.levellingSilence
      slope := l.slope.started now Config.levellingSilence
      periodTimer := some (now + Config.valvePeriod)
      cadence := some (now + Config.heightCadence)
      driver := l.driver.started now }
  else
    { l with cadence := some (now + Config.heightCadence) }

/-! ## The Feed Controller (R117, R118) -/

def DriveRecord.atReset : DriveRecord where
  mode := .off
  condition := .none
  command := 0
  manualTarget := 0
  stallTimer := none
  holdTimer := none
  period := none
  lastPulse := none

/-- The Feed Controller after either reset; the auger source and the edge-cold used are DEDUCED (assumption 31). -/
def Feed.atReset : Feed where
  conveyor := .atReset
  auger := .atReset
  level := .atReset
  tunnel := .atReset
  page := none
  pending := false
  view := []
  source := .tunnel
  edgeColdUsed := false
  periodTimer := none
  cadence := none

/-- The silence timers of the sensors the station reads (R116, R118), the control period timer of a feed owner (R121) and the
LEVEL cadence timer (R16) start at the release. -/
def Feed.started (f : Feed) (p : Straps) (now : Nat) : Feed :=
  { f with
    level := if p.levelSensor then f.level.started now Config.feedSilence else f.level
    tunnel := if p.owner then f.tunnel.started now Config.feedSilence else f.tunnel
    periodTimer := if p.owner then some (now + Config.controlPeriod) else none
    cadence := some (now + Config.levelCadence) }

/-! ## The Row Builder and the Record Ring (R132, R151, R156) -/

/-- The Row Builder after a reset that leaves this chainage and epoch. -/
def Rows.atReset (p : Straps) (chainage : Nat) (epoch : BitVec 8) : Rows where
  scannerOn := p.scanner
  silence := .stopped
  openRow := none
  highWater := none
  continuation := none
  lastChainage := chainage
  lastEpoch := epoch
  edgeCold := false
  coldRun := 0
  warmRun := 0
  page := none
  pending := false

/-- The scanner silence timer starts at the release when a scanner is fitted (R132). -/
def Rows.started (r : Rows) (p : Straps) (now : Nat) : Rows :=
  { r with silence := if p.scanner then .running (now + Config.scannerSilence) else .stopped }

/-- The collection record after either reset (R156). -/
def Collection.atReset : Collection where
  inFlight := false
  requester := none
  firstAsked := none
  range := .absent
  next := none
  firstSent := none
  sent := 0
  skipped := 0
  outstanding := false
  final := .absent
  busy := none
  answerOutstanding := false

/-- The Record Ring after power-on reset (R151). -/
def Ring.atPowerOn : Ring := ⟨[], 0, 0, 0, 0, 0, .wrap, .atReset⟩

/-! ## The Settings Store and the Station Supervisor (R163, R168, R170, R173) -/

def Settings.atReset : Settings := ⟨none, none, none, none, none⟩

def Supervisor.atReset (cause : ResetCause) : Supervisor where
  station := .run
  option := none
  wakingTimer := none
  wakeOwed := false
  resetCause := cause
  outcome := none
  serial := 0
  events := ⟨none, none, none, none⟩
  formed := 0
  cadence := none
  offerDue := false

/-- The STATUS cadence timer starts at the release (R16). -/
def Supervisor.started (v : Supervisor) (now : Nat) : Supervisor := { v with cadence := some (now + Config.statusCadence) }

/-- The STATUS that the release of power-on reset offers at a station with every strap and pin low (R171, R179): RUN, NO-SETTINGS and
TRAVEL-UNCALIBRATED, with everything else absent, OFF or 0. -/
def firstStatus : StatusContent where
  station := 0
  resetCause := 0
  parkOption := 0
  heatingOn := true
  rowOpen := false
  encoder := false
  tow := false
  owner := false
  scanner := false
  levelSensor := false
  fitted := 0
  heating := 3
  shedStanding := false
  shedStatus := 0
  ack := 0
  zones := ⟨0, 0, 0, 0⟩
  sideMode := 0
  condition := 0
  holdCause := 0
  partner := 15
  resume := none
  conveyorMode := 0
  conveyorCondition := 0
  augerMode := 0
  augerCondition := 0
  travelState := 1
  source := 15
  sourceChanges := 0
  heatPending := false
  levelPending := false
  feedPending := false
  recordPending := false
  held := 0
  stale := 0
  ringCount := 0
  dropped := 0
  overwritten := 0
  rowStart := 0
  receiveErrors := 0
  heard := 1
  serial := 0
  outcome := none
  overflow := false
  alarms := [14]

end Sys2Proof.Machine
end

