-- ==== Sys2Proof/Machine/State.lean ====
section
/-! DEFINITION. The state of the part, block by block, with the queue of waiting commands; the ways a step can stop; and the
state right after power-on reset. -/

namespace Sys2Proof.Machine

/-- Everything the manual gives the part, one field for each block of the block overview, and beside them the model's clock, the
queue of the commands that wait, the reset under way and the input pins. -/
structure State where
  /-- The model's clock, in 0.1 ms (assumption 1). -/
  now : Nat
  /-- The commands that wait, first in, first out. -/
  pending : List Instr
  phase : Phase
  pins : Pins
  identity : Identity
  line : Line
  travel : Travel
  heat : Heat
  load : Load
  level : Levelling
  feed : Feed
  rows : Rows
  ring : Ring
  settings : Settings
  sup : Supervisor
  deriving DecidableEq, Repr

/-- The faults of the part: none. No rule of the manual stops the part, so no meaning answers with a fault (safe). -/
inductive Fault where
  deriving DecidableEq, Repr

/-- The reasons for which the model has no answer. -/
inductive Refusal where
  /-- Raised by an arm of exec whose command has no meaning yet; no arm does, so it never arises (safe). -/
  | notModelled (mnemonic : String)
  deriving DecidableEq, Repr

/-- The part at the release of power-on reset with these strap pins, at this clock reading: every block at its power-on values
with its timers started (R179). -/
def State.poweredOn (straps : BitVec 18) (pins : Pins) (now : Nat) : State where
  now := now
  pending := []
  phase := .running
  pins := pins
  identity := ⟨sampleStraps straps, none⟩
  line := .atReset
  travel := (Travel.atReset (sampleStraps straps) 0 0 0).started (sampleStraps straps) now
  heat := Heat.atReset.started now
  load := Load.atReset.started now
  level := (Levelling.atReset (.atPowerOn (sampleStraps straps))).started (sampleStraps straps) now
  feed := Feed.atReset.started (sampleStraps straps) now
  rows := (Rows.atReset (sampleStraps straps) 0 0).started (sampleStraps straps) now
  ring := .atPowerOn
  settings := .atReset
  sup := (Supervisor.atReset .powerOn).started now

/-- The part right after power-on reset, with every strap and every input pin low (assumption 14), the clock at 0, the first STATUS
offered (R171) and no command waiting. -/
def State.reset : State :=
  let released := State.poweredOn 0 ⟨0, false⟩ 0
  { released with
    line :=
      { released.line with
        queue := { released.line.queue with status := .waiting (.status firstStatus 0) 0, nextPosition := 1 } }
    sup := { released.sup with formed := 1 } }

end Sys2Proof.Machine
end

