-- ==== Sys2Proof/Machine/Ops.lean ====
section
/-! DEFINITION. The named operations the blocks share: timers on the clock, clamping and rounding as the manual's conventions
give them, the transmit queue (R12 to R15), event alarms (R170) and the last command outcome (R168). -/

namespace Sys2Proof.Machine

/-! ## Time and arithmetic -/

/-- A timer's expiry has come: it runs, and the clock has reached it (assumption 2). -/
def due (timer : Option Nat) (now : Nat) : Bool :=
  match timer with
  | none => false
  | some t => decide (t ≤ now)

/-- An age has passed a limit: it exceeds it (R20, R166): DEDUCED (assumption 38), unsafe at the limit itself. -/
def passed (since limit now : Nat) : Bool := decide (limit < now - since)

/-- A value clamped to a range: the manual's convention. -/
def clampNat (low high n : Nat) : Nat := if n < low then low else if high < n then high else n

/-- A signed value clamped to a range. -/
def clampInt (low high n : Int) : Int := if n < low then low else if high < n then high else n

/-- The rounded mean floor((sum + count/2) / count) of the manual's conventions. -/
def roundedMean (sum : Int) (count : Nat) : Int := (sum + ((count / 2 : Nat) : Int)) / (count : Int)

/-- A count that stops at its maximum. -/
def saturate (high n : Nat) : Nat := if high ≤ n then high else n

/-! ## Station Identity (R2, R3) -/

/-- The station's straps. -/
def State.straps (s : State) : Straps := s.identity.straps

/-- The current mat width: Wmax, but on an EXTENSION the last valid width when there is one (R3). -/
def State.width (s : State) : Nat :=
  if s.straps.kind == .extension then s.identity.width.getD s.straps.maxWidth else s.straps.maxWidth

/-- A levelling station (R81). -/
def State.levelling (s : State) : Bool := s.straps.levelling

/-- A feed owner station (R116). -/
def State.owner (s : State) : Bool := s.straps.owner

/-- A TRAVEL page is held: the station is calibrated (R26). -/
def State.calibrated (s : State) : Bool := s.travel.page.isSome

/-- A window runs: the supply condition is RUNNING (R43). -/
def State.windowRuns (s : State) : Bool := s.heat.supply == .running

/-! ## The transmit queue -/

/-- The station kinds in a fixed order. -/
def StationKind.list : List StationKind := [.shedAck, .travel, .height, .demand, .level, .status, .record, .collectEnd]

/-- The class of a station kind (R5). -/
def StationKind.cls : StationKind → Nat
  | .shedAck => 0
  | .travel => 1
  | .height => 1
  | .demand => 3
  | .level => 3
  | .status => 4
  | .record => 5
  | .collectEnd => 5

/-- The kind of a content. -/
def Content.kind : Content → StationKind
  | .travel _ => .travel
  | .height _ => .height
  | .demand _ => .demand
  | .level _ => .level
  | .status _ _ => .status
  | .shedAck _ => .shedAck
  | .record _ => .record
  | .collectEnd _ => .collectEnd

/-- The slot of a kind (R12). -/
def TxQueue.get (q : TxQueue) : StationKind → TxSlot
  | .travel => q.travel
  | .height => q.height
  | .demand => q.demand
  | .level => q.level
  | .status => q.status
  | .shedAck => q.shedAck
  | .record => q.record
  | .collectEnd => q.collectEnd

/-- The queue with the slot of a kind replaced. -/
def TxQueue.set (q : TxQueue) (k : StationKind) (slot : TxSlot) : TxQueue :=
  match k with
  | .travel => { q with travel := slot }
  | .height => { q with height := slot }
  | .demand => { q with demand := slot }
  | .level => { q with level := slot }
  | .status => { q with status := slot }
  | .shedAck => { q with shedAck := slot }
  | .record => { q with record := slot }
  | .collectEnd => { q with collectEnd := slot }

/-- An offer to a slot of its kind (R12): the slot after it, when `position` is the newest queue position. -/
def TxSlot.offered (slot : TxSlot) (c : Content) (position : Nat) : TxSlot :=
  match slot with
  | .empty => .waiting c position
  | .waiting _ p => .waiting c p
  | .inFlight sent p _ => .inFlight sent p (some c)

/-- The queue after an offer (R12). A queue position is given at each offer and only the order of the positions counts. -/
def TxQueue.offer (q : TxQueue) (c : Content) : TxQueue :=
  { q.set c.kind ((q.get c.kind).offered c q.nextPosition) with nextPosition := q.nextPosition + 1 }

/-- A block offers a bulletin, and the LIF takes the offer at once (R12). -/
def State.offer (s : State) (c : Content) : State := { s with line := { s.line with queue := s.line.queue.offer c } }

/-- The position at which a kind's slot waits, if it does. -/
def TxQueue.waitsAt (q : TxQueue) (k : StationKind) : Option Nat :=
  match q.get k with
  | .waiting _ p => some p
  | _ => none

/-- A waiting kind is served before another: a lower class, or the same class and an older position (R13). -/
def servedBefore (a b : StationKind × Nat) : Bool :=
  decide (a.1.cls < b.1.cls) || (a.1.cls == b.1.cls && decide (a.2 < b.2))

/-- The first served of a list of waiting kinds. -/
def firstServed : List (StationKind × Nat) → Option (StationKind × Nat)
  | [] => none
  | a :: rest =>
    match firstServed rest with
    | none => some a
    | some b => if servedBefore b a then some b else some a

/-- The waiting kinds with their positions. -/
def TxQueue.waiting (q : TxQueue) : List (StationKind × Nat) :=
  StationKind.list.filterMap fun k => (q.waitsAt k).map fun p => (k, p)

/-- The entry the LIF chooses: the WAITING slot of the lowest class, and of that class the oldest (R13). -/
def TxQueue.choice (q : TxQueue) : Option StationKind := (firstServed q.waiting).map (·.1)

/-- A slot is IN-FLIGHT. -/
def TxSlot.isInFlight : TxSlot → Bool
  | .inFlight _ _ _ => true
  | _ => false

/-- The kind whose slot is IN-FLIGHT, if any. -/
def TxQueue.flying (q : TxQueue) : Option StationKind := StationKind.list.find? fun k => (q.get k).isInFlight

/-! ## Event alarms and the last command outcome -/

/-- The event alarms (R170). -/
inductive EventAlarm where | ringOverwrite | settingsClamped | lineQuiet | parkRefused
  deriving DecidableEq, Repr

/-- An owner raises an event alarm: it is present, with its new raising recorded (R170). -/
def State.raise (s : State) (e : EventAlarm) : State :=
  { s with
    sup :=
      { s.sup with
        events :=
          match e with
          | .ringOverwrite => { s.sup.events with ringOverwrite := some s.sup.formed }
          | .settingsClamped => { s.sup.events with settingsClamped := some s.sup.formed }
          | .lineQuiet => { s.sup.events with lineQuiet := some s.sup.formed }
          | .parkRefused => { s.sup.events with parkRefused := some s.sup.formed } } }

/-- A block asks for a STATUS offer at the end of the event being taken, as every application of a page does: DEDUCED (assumption 23),
unsafe. -/
def State.askStatus (s : State) : State := { s with sup := { s.sup with offerDue := true } }

/-- The last command outcome is set, and the command serial rises by 1 (R168). -/
def State.judged (s : State) (kind : CommandKind) (function : Option CommandFunction) (sender : Fin 16)
    (refused : Option Reason) : State :=
  { s with sup := { s.sup with outcome := some ⟨kind, function, sender, refused⟩, serial := s.sup.serial + 1 } }

/-! ## The station state -/

/-- The station is parked: PARK or PARK-INQUIRY (R117). -/
def State.parked (s : State) : Bool := s.sup.station == .park || s.sup.station == .parkInquiry

/-- The station state is PARK, PARK-INQUIRY or WAKING (R85, R99). -/
def State.parkedOrWaking (s : State) : Bool := s.sup.station != .run

end Sys2Proof.Machine
end

