-- ==== Sys2Proof/Machine/Flags.lean ====
section
/-! DEFINITION. What is derived from the records at each moment: the station heating state (R40), the shed indication (R72), the
hold cause shown (R88), the heard set (R21), the outputs (R51, R94, R117), the alarm set (R170), and the states whose change
makes the SSV offer a STATUS (R171). That none of these is stored is a DESIGN CHOICE (assumption 25), safe. -/

namespace Sys2Proof.Machine

/-- The station heating state: the first row of R40's table whose condition holds. -/
def State.heating (s : State) : HeatingState :=
  if s.heat.supply == .lost then .noSupply
  else
    match s.load.status with
    | .shedding => .shedding
    | .shed => .shed
    | .none =>
      if !s.heat.mode then .off
      else if s.heat.page.isNone then .noSettings
      else
        match s.sup.option with
        | some .cold => .parkCold
        | some .warm => .parkWarm
        | none => .active

/-- Zones regulate in ACTIVE and PARK-WARM (R39). -/
def HeatingState.draws (h : HeatingState) : Bool := h == .active || h == .parkWarm

/-- The shed indication the LSU gives the Row Builder (R72). -/
def State.shedIndication (s : State) : Bool := decide (s.load.factor < Config.maxShedFactor) || s.load.status != .none

/-- A slot is FRESH. -/
def PeerSlot.isFresh {α : Type} : PeerSlot α → Bool
  | .fresh _ _ => true
  | _ => false

/-- The content of a slot that is FRESH; an EMPTY or STALE slot gives no data (R21). -/
def PeerSlot.data {α : Type} : PeerSlot α → Option α
  | .fresh c _ => some c
  | _ => none

/-- The heard set: the stations whose STATUS slot is FRESH, and the station itself (R21). -/
def State.heard (s : State) : List (Fin 8) :=
  stations.filter fun n => n == s.straps.station || (s.line.peers.get n).status.isFresh

/-- A side mode is AUTO-GRADE or AUTO-SLOPE. -/
def isAuto (m : SideMode) : Bool := m == .autoGrade || m == .autoSlope

/-- The hold causes are not empty. -/
def Causes.any (c : Causes) : Bool := c.sensor || c.conflict || c.partner

/-- The code of the hold cause shown: the first of SENSOR, CONFLICT and PARTNER present in HOLD, 0 when there is none (R88,
Section 12.2). -/
def Levelling.causeShown (l : Levelling) : Nat :=
  if l.condition != .hold then 0
  else if l.causes.sensor then 1
  else if l.causes.conflict then 2
  else if l.causes.partner then 3
  else 0

/-! ## Outputs -/

/-- A zone's heater output. It is off while a reset is asserted (R178, R179). -/
def State.zoneOutput (s : State) (z : Fin 4) : Bool := s.phase == .running && (s.heat.zones.get z).out

/-- The levelling coil that is energised, if any (R94). -/
def State.coil (s : State) : Option Direction := if s.phase == .running then s.level.driver.energised else none

/-- The record of a drive. -/
def Feed.drive (f : Feed) : Drive → DriveRecord
  | .conveyor => f.conveyor
  | .auger => f.auger

/-- The Feed Controller with the record of a drive replaced. -/
def Feed.setDrive (f : Feed) (d : Drive) (r : DriveRecord) : Feed :=
  match d with
  | .conveyor => { f with conveyor := r }
  | .auger => { f with auger := r }

/-- A drive output: the drive's command, and 0 on a station that is no feed owner, while parked and while a reset is asserted
(R116, R117, R178). -/
def State.driveOutput (s : State) (d : Drive) : Nat :=
  if s.phase == .running && s.owner && !s.parked then (s.feed.drive d).command else 0

/-! ## The alarm set -/

/-- The alarm codes, in code order (R170). -/
inductive Alarm where
  | heatOpen | heatOvercurrent | heatSensor | heatOvertemp | heatLeakage | noSupply | sagShed | levelSensor | levelPartner
  | levelConflict | feedStall | feedSensor | travelLost | travelUncalibrated | scannerFault | ringFull | ringOverwrite
  | settingsStale | settingsClamped | strapIgnored | duplicateStation | lineQuiet | parkRefused
  deriving DecidableEq, Repr

/-- Every alarm code in code order. -/
def Alarm.list : List Alarm :=
  [.heatOpen, .heatOvercurrent, .heatSensor, .heatOvertemp, .heatLeakage, .noSupply, .sagShed, .levelSensor, .levelPartner,
    .levelConflict, .feedStall, .feedSensor, .travelLost, .travelUncalibrated, .scannerFault, .ringFull, .ringOverwrite,
    .settingsStale, .settingsClamped, .strapIgnored, .duplicateStation, .lineQuiet, .parkRefused]

/-- An alarm's order number, which is its code on the line (R170, R181). -/
def Alarm.code : Alarm → Nat
  | .heatOpen => 1
  | .heatOvercurrent => 2
  | .heatSensor => 3
  | .heatOvertemp => 4
  | .heatLeakage => 5
  | .noSupply => 6
  | .sagShed => 7
  | .levelSensor => 8
  | .levelPartner => 9
  | .levelConflict => 10
  | .feedStall => 11
  | .feedSensor => 12
  | .travelLost => 13
  | .travelUncalibrated => 14
  | .scannerFault => 15
  | .ringFull => 16
  | .ringOverwrite => 17
  | .settingsStale => 18
  | .settingsClamped => 19
  | .strapIgnored => 20
  | .duplicateStation => 21
  | .lineQuiet => 22
  | .parkRefused => 23

/-- At least one zone is TRIPPED with a cause (R56). -/
def Heat.trippedWith (h : Heat) (cause : TripCause) : Bool := h.zones.toList.any fun z => z.state == .tripped cause

/-- The count of held rows is 512 and the ring mode is HOLD (R153). -/
def Ring.full (r : Ring) : Bool := decide (Config.ringRows ≤ r.rows.length) && r.mode == .hold

/-- A held page is stale (R166). -/
def isStale {α : Type} (slot : Option (Held α)) : Bool :=
  match slot with
  | some h => h.stale
  | none => false

/-- At least one held page is stale. -/
def Settings.anyStale (t : Settings) : Bool :=
  isStale t.heat || isStale t.level || isStale t.feed || isStale t.record || isStale t.travel

/-- A drive is in SENSOR-HOLD or SENSOR-RAMP (R127). -/
def DriveRecord.sensorLost (d : DriveRecord) : Bool := d.condition == .sensorHold || d.condition == .sensorRamp

/-- An alarm is in the alarm set: an event alarm while it is raised, a condition alarm while the condition its owning rule gives
holds. -/
def State.alarm (s : State) : Alarm → Bool
  | .heatOpen => s.heat.trippedWith .openElement
  | .heatOvercurrent => s.heat.trippedWith .overcurrent
  | .heatSensor => s.heat.trippedWith .sensor
  | .heatOvertemp => s.heat.trippedWith .overtemp
  | .heatLeakage => s.heat.trippedWith .leakage
  | .noSupply => s.heat.supply == .lost
  | .sagShed => decide (s.load.factor < Config.maxShedFactor)
  | .levelSensor => isAuto s.level.mode && s.level.causes.sensor
  | .levelPartner => s.level.causes.partner
  | .levelConflict => s.level.causes.conflict
  | .feedStall => s.feed.conveyor.condition == .stalled || s.feed.auger.condition == .stalled
  | .feedSensor => s.feed.conveyor.sensorLost || s.feed.auger.sensorLost
  | .travelLost => s.travel.state == .lost
  | .travelUncalibrated => !s.calibrated
  | .scannerFault => s.rows.silence == .expired
  | .ringFull => s.ring.full
  | .ringOverwrite => s.sup.events.ringOverwrite.isSome
  | .settingsStale => s.settings.anyStale
  | .settingsClamped => s.sup.events.settingsClamped.isSome
  | .strapIgnored => s.straps.ignored
  | .duplicateStation => s.line.duplicateTimer.isSome
  | .lineQuiet => s.sup.events.lineQuiet.isSome
  | .parkRefused => s.sup.events.parkRefused.isSome

/-- The alarm set, in code order (R170). -/
def State.alarms (s : State) : List Alarm := Alarm.list.filter s.alarm

/-! ## The states that STATUS carries -/

/-- The states whose change causes a STATUS offer at once, with the alarm set (R171). -/
structure StatusStates where
  station : StationState
  option : Option ParkOption
  resetCause : ResetCause
  heating : HeatingState
  heatingOn : Bool
  zones : List ZoneState
  standing : Bool
  shedStatus : ShedStatus
  ack : Ack
  sideMode : SideMode
  condition : SideCondition
  causeShown : Nat
  partner : Option (Fin 8)
  resumeValid : Bool
  nested : Nat
  conveyor : DriveMode × DriveCondition
  auger : DriveMode × DriveCondition
  travelState : TravelState
  source : Source
  pendingFlags : List Bool
  outcome : Option CommandOutcome
  serial : BitVec 8
  alarms : List Alarm
  deriving DecidableEq, Repr

/-- Those states as they stand. -/
def State.statusStates (s : State) : StatusStates where
  station := s.sup.station
  option := s.sup.option
  resetCause := s.sup.resetCause
  heating := s.heating
  heatingOn := s.heat.mode
  zones := s.heat.zones.toList.map (·.state)
  standing := s.load.standing
  shedStatus := s.load.status
  ack := s.load.ack
  sideMode := s.level.mode
  condition := s.level.condition
  causeShown := s.level.causeShown
  partner := s.level.partner
  resumeValid := s.level.resume.isSome
  nested := (s.level.resume.map (·.nested)).getD 0
  conveyor := (s.feed.conveyor.mode, s.feed.conveyor.condition)
  auger := (s.feed.auger.mode, s.feed.auger.condition)
  travelState := s.travel.state
  source := s.travel.source
  pendingFlags := [s.heat.pending, s.level.pending, s.feed.pending, s.rows.pending]
  outcome := s.sup.outcome
  serial := s.sup.serial
  alarms := s.alarms

end Sys2Proof.Machine
end

