-- ==== Sys2Proof/Machine/Formats.lean ====
section
/-! DEFINITION. The formats of Chapter 12: the codes of Section 12.2, the payloads of the station kinds (Section 12.3) written and
read, the checksum and the bulletin on the line (Section 12.1). -/

namespace Sys2Proof.Machine

/-! ## Fields and bytes -/

/-- The byte with a value's low eight bits. -/
def byte (n : Nat) : Byte := BitVec.ofNat 8 n

/-- A field of two, three or four bytes, most significant byte first. -/
def bytes2 (n : Nat) : List Byte := [byte (n / 256), byte n]
def bytes3 (n : Nat) : List Byte := [byte (n / 65536), byte (n / 256), byte n]
def bytes4 (n : Nat) : List Byte := [byte (n / 16777216), byte (n / 65536), byte (n / 256), byte n]

/-- One flag as a bit. -/
def bit (b : Bool) : Nat := if b then 1 else 0

/-- The number that bytes spell, most significant first. -/
def spelled (bytes : List Byte) : Nat := bytes.foldl (fun acc b => acc * 256 + b.toNat) 0

/-- The `len` bytes of a payload from byte `at`, as a number. -/
def fieldAt (payload : List Byte) (start len : Nat) : Nat := spelled ((payload.drop start).take len)

/-- Bits `high` to `low` of a number. -/
def bits (n high low : Nat) : Nat := n / 2 ^ low % 2 ^ (high + 1 - low)

/-- One bit of a number. -/
def flag (n i : Nat) : Bool := bits n i i == 1

/-- A signed number of `width` bits as two's complement. -/
def signed (width : Nat) (v : Int) : Nat := (v % ((2 ^ width : Nat) : Int)).toNat

/-- The signed number that `width` bits spell. -/
def unsigned (width n : Nat) : Int := if n < 2 ^ (width - 1) then (n : Int) else (n : Int) - ((2 ^ width : Nat) : Int)

/-- A 16-bit signed reading: −32768 when absent (Section 12.2). -/
def reading16 (v : Option Int) : Nat := signed 16 (v.getD (-32768))
def ofReading16 (n : Nat) : Option Int := if unsigned 16 n = -32768 then none else some (unsigned 16 n)

/-- A 12-bit signed value: −2048 when absent or NO-READING (Section 12.2). -/
def value12 (v : Option Int) : Nat := signed 12 (v.getD (-2048))

/-- A 12-bit pair: three bytes, the first value in the upper 12 bits (Section 12.2). -/
def pair12 (a b : Option Int) : List Byte := bytes3 (value12 a * 4096 + value12 b)

/-- A level byte: 255 when absent (Section 12.3). -/
def levelByte (v : Option Nat) : Byte := byte (v.getD 255)
def ofLevelByte (n : Nat) : Option Nat := if n = 255 then none else some n

/-- A captured period: 0 for none (Section 12.3). -/
def periodField (v : Option Nat) : List Byte := bytes2 (v.getD 0)
def ofPeriodField (n : Nat) : Option Nat := if n = 0 then none else some n

/-! ## Codes (Sections 12.2 and 12.3) -/

def sideCode : Side → Nat
  | .left => 0
  | .right => 1
def sideOf (n : Nat) : Side := if n = 0 then .left else .right

def sectionKindCode : SectionKind → Nat
  | .main => 0
  | .extension => 1
  | .boltOn => 2
/-- The section kind a code names; 3 names none. -/
def sectionKindOf (n : Nat) : Option SectionKind :=
  if n = 0 then some .main else if n = 1 then some .extension else if n = 2 then some .boltOn else none

def HeatingState.code : HeatingState → Nat
  | .active => 0
  | .parkWarm => 1
  | .parkCold => 2
  | .noSettings => 3
  | .off => 4
  | .shed => 5
  | .shedding => 6
  | .noSupply => 7
def HeatingState.ofCode (n : Nat) : HeatingState :=
  if n = 0 then .active else if n = 1 then .parkWarm else if n = 2 then .parkCold else if n = 3 then .noSettings
  else if n = 4 then .off else if n = 5 then .shed else if n = 6 then .shedding else .noSupply

def sideModeCode : SideMode → Nat
  | .off => 0
  | .manual => 1
  | .autoGrade => 2
  | .autoSlope => 3
/-- The side mode a two-bit code names. -/
def sideModeOf (n : Nat) : SideMode := if n = 0 then .off else if n = 1 then .manual else if n = 2 then .autoGrade else .autoSlope

def SideCondition.code : SideCondition → Nat
  | .none => 0
  | .active => 1
  | .hold => 2
  | .frozen => 3
  | .settling => 4

def Driver.code : Driver → Nat
  | .neutral => 0
  | .driving ⟨.raise, _, _⟩ => 1
  | .driving ⟨.lower, _, _⟩ => 2
  | .dead _ _ _ => 3

def driveModeCode : DriveMode → Nat
  | .off => 0
  | .manual => 1
  | .auto => 2
/-- The drive mode a code names. -/
def driveModeOf (n : Nat) : Option DriveMode :=
  if n = 0 then some .off else if n = 1 then some .manual else if n = 2 then some .auto else none

def DriveCondition.code : DriveCondition → Nat
  | .none => 0
  | .driving => 1
  | .sensorHold => 2
  | .sensorRamp => 3
  | .stalled => 4

def TravelState.code : TravelState → Nat
  | .paving => 0
  | .stopped => 1
  | .reversing => 2
  | .lost => 3
def TravelState.ofCode (n : Nat) : TravelState :=
  if n = 0 then .paving else if n = 1 then .stopped else if n = 2 then .reversing else .lost

/-- A station number field: 15 for none. -/
def stationField (n : Option (Fin 8)) : Nat :=
  match n with
  | some n => n.val
  | none => 15

def Source.code : Source → Nat
  | .station n => n.val
  | .own => 14
  | .none => 15

def AugerSource.code : AugerSource → Nat
  | .station n => n.val
  | .tunnel => 15

def StationState.code : StationState → Nat
  | .run => 0
  | .park => 1
  | .parkInquiry => 2
  | .waking => 3

def ResetCause.code : ResetCause → Nat
  | .powerOn => 0
  | .restartCommand => 1
  | .restartPin => 2

def parkOptionCode (o : Option ParkOption) : Nat :=
  match o with
  | none => 0
  | some .warm => 1
  | some .cold => 2

def ShedStatus.code : ShedStatus → Nat
  | .none => 0
  | .shedding => 1
  | .shed => 2

def Ack.code : Ack → Nat
  | .notDue => 0
  | .awaitingDemand => 1
  | .waiting => 2
  | .sent => 3

/-- The four bits of a fitted zone in STATUS. -/
def ZoneState.code : ZoneState → Nat
  | .idle => 1
  | .regulating => 2
  | .tripped .openElement => 3
  | .tripped .overcurrent => 4
  | .tripped .sensor => 5
  | .tripped .overtemp => 6
  | .tripped .leakage => 7

def CommandKind.code : CommandKind → Nat
  | .mode => 0
  | .jog => 1
  | .clear => 2
  | .park => 3

def CommandFunction.code : CommandFunction → Nat
  | .heating => 0
  | .levelling => 1
  | .conveyor => 2
  | .auger => 3

def reasonCode (r : Option Reason) : Nat :=
  match r with
  | none => 0
  | some .noPage => 1
  | some .parked => 2
  | some .notFitted => 3
  | some .strappedOff => 4
  | some .sideOff => 5
  | some .levellingAuto => 6
  | some .feedRunning => 7

def CloseCause.code : CloseCause → Nat
  | .step => 0
  | .park => 1
  | .rebase => 2

def CollectOutcome.code : CollectOutcome → Nat
  | .done => 0
  | .busy => 1
  | .empty => 2

/-! ## Station kinds written (Section 12.3) -/

def encodeTravel (c : TravelContent) : List Byte :=
  bytes4 c.chainage ++ [byte c.epoch.toNat] ++ bytes2 (signed 16 c.speed) ++ [byte (c.state.code * 64 + bit c.counts)]

def encodeDemand (c : DemandContent) : List Byte :=
  bytes2 c.demand ++ [byte (c.heating.code * 32)] ++ bytes2 c.factor ++ bytes2 c.total

def encodeShedAck (c : ShedAckContent) : List Byte := [byte (c.heating.code * 32 + bit c.windowRunning)]

def encodeHeight (c : HeightContent) : List Byte :=
  [byte (sideCode c.side * 128 + sideModeCode c.mode * 32 + c.condition % 8 * 4 + c.holdCause % 4),
    byte (c.partner % 16 * 16 + c.driver % 4 * 4 + bit c.gradeFault * 2 + bit c.slopeFault)] ++
    bytes2 (reading16 c.grade) ++ bytes2 (reading16 c.slope) ++ bytes2 (reading16 c.reference)

/-- The five bytes of one drive in a LEVEL's owner part. -/
def encodeDrive (d : DriveReport) : List Byte :=
  [byte (d.mode % 4 * 64 + d.condition % 8 * 8)] ++ bytes2 d.command ++ periodField d.period

/-- The thirteen bytes of a LEVEL's owner part: all 0 when it is not present. -/
def encodeOwner (o : Option OwnerPart) : List Byte :=
  match o with
  | none => List.replicate 13 0
  | some o =>
    encodeDrive o.conveyor ++ encodeDrive o.auger ++
      [byte (bit o.edgeColdUsed * 128 + o.source % 16), levelByte o.tunnel, byte (bit o.tunnelFault)]

def encodeLevel (c : LevelContent) : List Byte :=
  [byte (sideCode c.side * 128 + sectionKindCode c.kind * 32 + bit c.valid * 16 + bit c.edgeCold * 8 +
      bit c.owner.isSome * 4),
    levelByte c.level] ++ encodeOwner c.owner

/-- What travels in a place whose content is absent and for which the layout gives no value (assumption 19). -/
def absent (f : Config.AbsentField) : Nat := Config.absentField f

/-- Bytes 7 to 14 of a STATUS: the resume record. -/
def encodeResume (r : Option ResumeReport) : List Byte :=
  match r with
  | none =>
    [byte (absent .nestedStops)] ++ bytes4 (absent .stopChainage) ++ [byte (absent .resumeEpoch)] ++
      bytes2 (absent .stopFault % 2 * 32768 + value12 none)
  | some r =>
    [byte r.nested] ++ bytes4 r.chainage ++ [byte r.epoch] ++
      bytes2
        (match r.reading with
          | none => absent .stopFault % 2 * 32768 + value12 none
          | some (v, fault) => bit fault * 32768 + value12 (some v))

/-- Bytes 36 and 37 of a STATUS: the last command outcome. -/
def encodeOutcome (o : Option OutcomeReport) : List Byte :=
  match o with
  | none =>
    [byte (absent .outcomeKind % 4 * 32 + absent .outcomeFunction % 4 * 8 + absent .outcomeRefused % 2 * 4),
      byte (absent .outcomeSender % 16 * 16 + absent .outcomeReason % 8)]
  | some o =>
    [byte (128 + o.kind % 4 * 32 + o.function.getD (absent .outcomeFunction) % 4 * 8 + bit o.refused * 4),
      byte (o.sender % 16 * 16 + o.reason % 8)]

/-- Up to twelve alarm codes, five bits each, from bit 63 of the eight bytes down. -/
def packAlarms : List Nat → Nat → Nat
  | [], _ => 0
  | code :: rest, room => code % 32 * 2 ^ (room - 5) + packAlarms rest (room - 5)

/-- The eight bytes of a number, most significant first. -/
def bytes8 (n : Nat) : List Byte := bytes4 (n / 4294967296) ++ bytes4 n

def encodeStatus (c : StatusContent) : List Byte :=
  [byte (c.station % 4 * 64 + c.resetCause % 4 * 16 + c.parkOption % 4 * 4 + bit c.heatingOn * 2 + bit c.rowOpen),
    byte (bit c.encoder * 128 + bit c.tow * 64 + bit c.owner * 32 + bit c.scanner * 16 + bit c.levelSensor * 8 + c.fitted % 8),
    byte (c.heating % 8 * 32 + bit c.shedStanding * 16 + c.shedStatus % 4 * 4 + c.ack % 4),
    byte (c.zones.z0 % 16 * 16 + c.zones.z1 % 16), byte (c.zones.z2 % 16 * 16 + c.zones.z3 % 16),
    byte (c.sideMode % 4 * 64 + c.condition % 8 * 8 + c.holdCause % 4 * 2 + bit c.resume.isSome),
    byte (c.partner % 16 * 16 + bit ((c.resume.map (·.movePending)).getD false) * 8)] ++
    encodeResume c.resume ++
    [byte (c.conveyorMode % 4 * 64 + c.conveyorCondition % 8 * 8), byte (c.augerMode % 4 * 64 + c.augerCondition % 8 * 8),
      byte (c.travelState % 4 * 64 + c.source % 16), byte c.sourceChanges,
      byte (bit c.heatPending * 128 + bit c.levelPending * 64 + bit c.feedPending * 32 + bit c.recordPending * 16),
      byte c.held, byte c.stale] ++
    bytes2 c.ringCount ++ bytes2 c.dropped ++ bytes2 c.overwritten ++ bytes4 c.rowStart ++ bytes2 c.receiveErrors ++
    [byte c.heard, byte c.serial] ++ encodeOutcome c.outcome ++
    [byte (bit c.overflow * 128 + c.alarms.length % 16)] ++ bytes8 (packAlarms c.alarms 64) ++ [0]

/-- Sixteen cells as eight 12-bit pairs: NO-READING and the cells beyond the number are carried as −2048. -/
def encodeCells : Nat → List (Option Int) → List Byte
  | 0, _ => []
  | n + 1, cells => pair12 (cells.headD none) ((cells.drop 1).headD none) ++ encodeCells n (cells.drop 2)

def encodeRecord (c : RecordContent) : List Byte :=
  let r := c.held.row
  [byte c.requester.val] ++ bytes4 c.held.seq.toNat ++ [byte r.epoch.toNat] ++ bytes4 r.start ++
    [byte r.length,
      byte (r.cause.code * 64 + bit r.flags.shedSeen * 16 + bit r.flags.tripSeen * 8 + bit r.flags.stopInside * 4 +
        bit r.flags.reverseInside * 2 + bit r.flags.scannerFault),
      byte r.width, byte r.cells.length, byte r.cold,
      byte (bit r.minimum.isSome * 64 + bit r.plate.isSome * 32 + bit r.height.isSome * 16 + r.mark % 16)] ++
    pair12 r.minimum r.plate ++ pair12 (some r.speed) r.height ++ bytes2 r.stopped ++ encodeCells 8 r.cells

def encodeCollectEnd (c : CollectEndContent) : List Byte :=
  [byte c.requester.val, byte (bit c.firstSent.isSome * 128 + bit c.newest.isSome * 64 + c.outcome.code)] ++
    bytes4 c.firstAsked.toNat ++ bytes4 ((c.firstSent.map (·.toNat)).getD (absent .firstSent)) ++
    [byte c.sent, byte c.skipped] ++ bytes4 c.oldest.toNat ++ bytes4 ((c.newest.map (·.toNat)).getD (absent .newest)) ++
    bytes4 c.overwritten.toNat ++ bytes4 c.dropped.toNat ++ bytes4 c.closed.toNat ++ bytes4 c.released.toNat

/-- The payload of a content. -/
def Content.payload : Content → List Byte
  | .travel c => encodeTravel c
  | .height c => encodeHeight c
  | .demand c => encodeDemand c
  | .level c => encodeLevel c
  | .status c _ => encodeStatus c
  | .shedAck c => encodeShedAck c
  | .record c => encodeRecord c
  | .collectEnd c => encodeCollectEnd c

/-! ## Station kinds read (Section 12.3, R183) -/

def decodeTravel (p : List Byte) : TravelContent where
  chainage := fieldAt p 0 4
  epoch := BitVec.ofNat 8 (fieldAt p 4 1)
  speed := unsigned 16 (fieldAt p 5 2)
  state := .ofCode (bits (fieldAt p 7 1) 7 6)
  counts := flag (fieldAt p 7 1) 0

def decodeDemand (p : List Byte) : DemandContent where
  demand := fieldAt p 0 2
  heating := .ofCode (bits (fieldAt p 2 1) 7 5)
  factor := fieldAt p 3 2
  total := fieldAt p 5 2

def decodeHeight (p : List Byte) : HeightContent where
  side := sideOf (bits (fieldAt p 0 1) 7 7)
  mode := sideModeOf (bits (fieldAt p 0 1) 6 5)
  condition := bits (fieldAt p 0 1) 4 2
  holdCause := bits (fieldAt p 0 1) 1 0
  partner := bits (fieldAt p 1 1) 7 4
  driver := bits (fieldAt p 1 1) 3 2
  gradeFault := flag (fieldAt p 1 1) 1
  slopeFault := flag (fieldAt p 1 1) 0
  grade := ofReading16 (fieldAt p 2 2)
  slope := ofReading16 (fieldAt p 4 2)
  reference := ofReading16 (fieldAt p 6 2)

/-- One drive of a LEVEL's owner part, from byte `start` of the payload. -/
def decodeDrive (p : List Byte) (start : Nat) : DriveReport where
  mode := bits (fieldAt p start 1) 7 6
  condition := bits (fieldAt p start 1) 5 3
  command := fieldAt p (start + 1) 2
  period := ofPeriodField (fieldAt p (start + 3) 2)

def decodeOwner (p : List Byte) : OwnerPart where
  conveyor := decodeDrive p 2
  auger := decodeDrive p 7
  edgeColdUsed := flag (fieldAt p 12 1) 7
  source := bits (fieldAt p 12 1) 3 0
  tunnel := ofLevelByte (fieldAt p 13 1)
  tunnelFault := flag (fieldAt p 14 1) 0

/-- A LEVEL; none when its section kind names no value, a field the side level view uses (R122, R183). -/
def decodeLevel (p : List Byte) : Option LevelContent :=
  (sectionKindOf (bits (fieldAt p 0 1) 6 5)).map fun kind =>
    { side := sideOf (bits (fieldAt p 0 1) 7 7)
      kind := kind
      level := ofLevelByte (fieldAt p 1 1)
      valid := flag (fieldAt p 0 1) 4
      edgeCold := flag (fieldAt p 0 1) 3
      owner := if flag (fieldAt p 0 1) 2 then some (decodeOwner p) else none }

/-- The first `n` alarm codes of a 64-bit number, from bit 63 down. -/
def unpackAlarms (packed : Nat) : Nat → Nat → List Nat
  | 0, _ => []
  | n + 1, room => packed / 2 ^ (room - 5) % 32 :: unpackAlarms packed n (room - 5)

/-- The resume record of a STATUS, when its valid bit is set. -/
def decodeResume (p : List Byte) : Option ResumeReport :=
  if flag (fieldAt p 5 1) 0 then
    some
      { chainage := fieldAt p 8 4
        epoch := fieldAt p 12 1
        reading :=
          if unsigned 12 (bits (fieldAt p 13 2) 11 0) = -2048 then none
          else some (unsigned 12 (bits (fieldAt p 13 2) 11 0), flag (fieldAt p 13 2) 15)
        movePending := flag (fieldAt p 6 1) 3
        nested := fieldAt p 7 1 }
  else none

/-- The last command outcome of a STATUS, when its outcome bit is set. JOG and PARK have no function (R168). -/
def decodeOutcome (p : List Byte) : Option OutcomeReport :=
  if flag (fieldAt p 36 1) 7 then
    some
      { kind := bits (fieldAt p 36 1) 6 5
        function :=
          if bits (fieldAt p 36 1) 6 5 = CommandKind.mode.code ∨ bits (fieldAt p 36 1) 6 5 = CommandKind.clear.code then
            some (bits (fieldAt p 36 1) 4 3)
          else none
        sender := bits (fieldAt p 37 1) 7 4
        refused := flag (fieldAt p 36 1) 2
        reason := bits (fieldAt p 37 1) 2 0 }
  else none

def decodeStatus (p : List Byte) : StatusContent where
  station := bits (fieldAt p 0 1) 7 6
  resetCause := bits (fieldAt p 0 1) 5 4
  parkOption := bits (fieldAt p 0 1) 3 2
  heatingOn := flag (fieldAt p 0 1) 1
  rowOpen := flag (fieldAt p 0 1) 0
  encoder := flag (fieldAt p 1 1) 7
  tow := flag (fieldAt p 1 1) 6
  owner := flag (fieldAt p 1 1) 5
  scanner := flag (fieldAt p 1 1) 4
  levelSensor := flag (fieldAt p 1 1) 3
  fitted := bits (fieldAt p 1 1) 2 0
  heating := bits (fieldAt p 2 1) 7 5
  shedStanding := flag (fieldAt p 2 1) 4
  shedStatus := bits (fieldAt p 2 1) 3 2
  ack := bits (fieldAt p 2 1) 1 0
  zones := ⟨bits (fieldAt p 3 1) 7 4, bits (fieldAt p 3 1) 3 0, bits (fieldAt p 4 1) 7 4, bits (fieldAt p 4 1) 3 0⟩
  sideMode := bits (fieldAt p 5 1) 7 6
  condition := bits (fieldAt p 5 1) 5 3
  holdCause := bits (fieldAt p 5 1) 2 1
  partner := bits (fieldAt p 6 1) 7 4
  resume := decodeResume p
  conveyorMode := bits (fieldAt p 15 1) 7 6
  conveyorCondition := bits (fieldAt p 15 1) 5 3
  augerMode := bits (fieldAt p 16 1) 7 6
  augerCondition := bits (fieldAt p 16 1) 5 3
  travelState := bits (fieldAt p 17 1) 7 6
  source := bits (fieldAt p 17 1) 3 0
  sourceChanges := fieldAt p 18 1
  heatPending := flag (fieldAt p 19 1) 7
  levelPending := flag (fieldAt p 19 1) 6
  feedPending := flag (fieldAt p 19 1) 5
  recordPending := flag (fieldAt p 19 1) 4
  held := bits (fieldAt p 20 1) 4 0
  stale := bits (fieldAt p 21 1) 4 0
  ringCount := fieldAt p 22 2
  dropped := fieldAt p 24 2
  overwritten := fieldAt p 26 2
  rowStart := fieldAt p 28 4
  receiveErrors := fieldAt p 32 2
  heard := fieldAt p 34 1
  serial := fieldAt p 35 1
  outcome := decodeOutcome p
  overflow := flag (fieldAt p 38 1) 7
  alarms := unpackAlarms (fieldAt p 39 8) (bits (fieldAt p 38 1) 3 0) 64

/-! ## The bulletin on the line (Section 12.1) -/

/-- One step of the checksum: the generator x^16 + x^12 + x^5 + 1. -/
def crcShift (crc : BitVec 16) : BitVec 16 := if crc.msb then crc <<< 1 ^^^ 0x1021#16 else crc <<< 1

/-- `n` steps of the checksum. -/
def crcShifts : Nat → BitVec 16 → BitVec 16
  | 0, crc => crc
  | n + 1, crc => crcShifts n (crcShift crc)

/-- The checksum after one more byte, most significant bit first. -/
def crcByte (crc : BitVec 16) (b : Byte) : BitVec 16 := crcShifts 8 (crc ^^^ (b.setWidth 16 <<< 8))

/-- The checksum of a header and payload: started at all ones, with no final inversion. -/
def checksum (bytes : List Byte) : BitVec 16 := bytes.foldl crcByte 0xFFFF#16

/-- The code of a station kind. -/
def StationKind.code : StationKind → Nat
  | .shedAck => 3
  | .travel => 4
  | .height => 5
  | .demand => 13
  | .level => 14
  | .status => 16
  | .record => 19
  | .collectEnd => 20

/-- The fixed payload length of a kind code; none when the code names no kind. -/
def payloadLength (code : Nat) : Option Nat :=
  [none, some 0, some 0, some 1, some 8, some 8, some 4, some 3, some 1, some 0, some 1, some 4, some 0, some 7, some 15,
    some 40, some 48, some 5, some 4, some 48, some 36].getD code none

/-- The header and payload of a bulletin this station sends: its own number as sender, target 15, reserved bits 0 (R4, R182). -/
def headerAndPayload (station : Fin 8) (c : Content) : List Byte :=
  [byte (c.kind.cls * 32 + station.val * 2), byte c.kind.code, byte 15, byte c.payload.length] ++ c.payload

/-- The bytes of a bulletin on the line, from the class to the checksum (R4). -/
def bulletin (station : Fin 8) (c : Content) : List Byte :=
  headerAndPayload station c ++ bytes2 (checksum (headerAndPayload station c)).toNat

/-- The levels of a byte on the line, most significant bit first: 0 is dominant and 1 recessive (R4, Section 12.1). -/
def byteLevels (b : Byte) : List LineLevel :=
  (List.range 8).map fun i => if b.getLsbD (7 - i) then .recessive else .dominant

/-- What a station drives for a whole bulletin: the start mark, header to checksum, the echo field, whose echo bit the sender sends
recessive before a recessive delimiter, and the end mark of seven recessive bits (R4, Section 12.1). -/
def frame (station : Fin 8) (c : Content) : List LineLevel :=
  [.dominant] ++ (bulletin station c).flatMap byteLevels ++ [.recessive, .recessive] ++ List.replicate 7 .recessive

end Sys2Proof.Machine
end

