-- ==== Sys2Proof/Machine/Bulletins.lean ====
section
/-! DEFINITION. Bulletins read from the line: the judgement of R9, the payloads of the command kinds (Section 12.4) and of the
peers' kinds (Section 12.3), and the discards of R182 and R183. -/

namespace Sys2Proof.Machine

/-! ## Receiving -/

/-- The sender of a header: bits 4 to 1 of its first byte. -/
def senderOf (bytes : List Byte) : Fin 16 := ⟨bits (fieldAt bytes 0 1) 4 1, Nat.mod_lt _ (by decide)⟩

/-- A bulletin as it came is good: its announced length is at most 48, it was not cut off before the end of its checksum, and
its checksum matches (R9). Bytes after the checksum are not read: DESIGN CHOICE (assumption 39), unsafe. -/
def isGood (bytes : List Byte) : Bool :=
  let length := fieldAt bytes 3 1
  decide (4 ≤ bytes.length) && decide (length ≤ Config.maxPayload) && decide (4 + length + 2 ≤ bytes.length) &&
    (checksum (bytes.take (4 + length))).toNat == fieldAt bytes (4 + length) 2

/-- The good bulletin that bytes carry; none for a receive error (R9). -/
def readBulletin (bytes : List Byte) : Option Bulletin :=
  if isGood bytes then
    some
      ⟨senderOf bytes, fieldAt bytes 1 1, bits (fieldAt bytes 2 1) 3 0, (bytes.drop 4).take (fieldAt bytes 3 1)⟩
  else none

/-- The bulletin's payload has the fixed length of a kind that its code names (R182). -/
def Bulletin.fits (b : Bulletin) : Bool := payloadLength b.kind == some b.payload.length

/-! ## Command kinds (Section 12.4) -/

/-- A MODE, its value judged against the function named (R183). -/
def decodeMode (p : List Byte) : Option LineCommand :=
  let value := fieldAt p 1 1
  let command := fieldAt p 2 2
  if fieldAt p 0 1 = 0 then
    if value = 0 then some (.modeHeating false) else if value = 1 then some (.modeHeating true) else none
  else if fieldAt p 0 1 = 1 then if value < 4 then some (.modeLevelling (sideModeOf value)) else none
  else if fieldAt p 0 1 = 2 then (driveModeOf value).map fun m => .modeDrive .conveyor m command
  else if fieldAt p 0 1 = 3 then (driveModeOf value).map fun m => .modeDrive .auger m command
  else none

/-- A JOG (R183). -/
def decodeJog (p : List Byte) : Option LineCommand :=
  if fieldAt p 0 1 = 0 then some (.jog .raise (fieldAt p 1 2))
  else if fieldAt p 0 1 = 1 then some (.jog .lower (fieldAt p 1 2))
  else none

/-- A PARK (R183). -/
def decodePark (p : List Byte) : Option LineCommand :=
  if fieldAt p 0 1 = 0 then some (.park .warm) else if fieldAt p 0 1 = 1 then some (.park .cold) else none

/-- The fields of one mark window, from byte `start`. -/
def decodeWindow (p : List Byte) (start : Nat) : MarkWindow :=
  ⟨flag (fieldAt p start 1) 7, bits (fieldAt p start 1) 3 0, fieldAt p (start + 1) 4, fieldAt p (start + 5) 4⟩

/-- A SETTINGS, its page code in byte 0 and the page's fields from byte 1 (R183). -/
def decodeSettings (p : List Byte) : Option SettingsFields :=
  if fieldAt p 0 1 = 0 then
    some
      (.heat
        ⟨fieldAt p 1 2, fieldAt p 3 1, fieldAt p 4 1, fieldAt p 5 1, fieldAt p 6 2, fieldAt p 8 1, fieldAt p 9 1⟩)
  else if fieldAt p 0 1 = 1 then
    some
      (.level
        ⟨fieldAt p 1 1, fieldAt p 2 1, fieldAt p 3 1, fieldAt p 4 1, fieldAt p 5 1, fieldAt p 6 2, fieldAt p 8 1,
          fieldAt p 9 1, fieldAt p 10 1⟩)
  else if fieldAt p 0 1 = 2 then
    some
      (.feed
        ⟨⟨fieldAt p 1 1, fieldAt p 2 1, fieldAt p 3 1⟩, ⟨fieldAt p 4 1, fieldAt p 5 1, fieldAt p 6 1⟩, fieldAt p 7 1,
          fieldAt p 8 2⟩)
  else if fieldAt p 0 1 = 3 then
    some
      (.record
        ⟨fieldAt p 1 1, fieldAt p 2 1, fieldAt p 3 1,
          ⟨decodeWindow p 4, decodeWindow p 13, decodeWindow p 22, decodeWindow p 31⟩⟩)
  else if fieldAt p 0 1 = 4 then some (.travel ⟨fieldAt p 1 2, fieldAt p 3 1⟩)
  else none

/-- The command of a command kind's code and payload; none when the code names no command kind, or when a field that selects what
the command does names no value (R183). -/
def decodeCommand (kind : Nat) (p : List Byte) : Option LineCommand :=
  if kind = 1 then some .shedAll
  else if kind = 2 then some .restore
  else if kind = 6 then decodeMode p
  else if kind = 7 then decodeJog p
  else if kind = 8 then decodePark p
  else if kind = 9 then some .wake
  else if kind = 10 then if fieldAt p 0 1 = 0 then some .clearHeating else none
  else if kind = 11 then some (.rebase (BitVec.ofNat 32 (fieldAt p 0 4)))
  else if kind = 12 then some .restart
  else if kind = 15 then (decodeSettings p).map .settings
  else if kind = 17 then some (.collect (BitVec.ofNat 32 (fieldAt p 0 4)) (fieldAt p 4 1))
  else if kind = 18 then some (.release (BitVec.ofNat 32 (fieldAt p 0 4)))
  else none

/-! ## Peers' kinds -/

/-- The content a peer's bulletin enters in the peer table; none when its kind has no slot there, or when a field that the slot's
reader uses names no value (R10, R183). -/
def decodePeer (kind : Nat) (p : List Byte) : Option PeerContent :=
  if kind = StationKind.travel.code then some (.travel (decodeTravel p))
  else if kind = StationKind.height.code then some (.height (decodeHeight p))
  else if kind = StationKind.demand.code then some (.demand (decodeDemand p))
  else if kind = StationKind.level.code then (decodeLevel p).map .level
  else if kind = StationKind.status.code then some (.status (decodeStatus p))
  else none

end Sys2Proof.Machine
end

