-- ==== Sys2Proof/Machine/Operands.lean ====
section
/-! DEFINITION. How the operands of a command are judged: which readings are valid, and how the fields of a settings page are
clamped and replaced (R164, R165). -/

namespace Sys2Proof.Machine

/-! ## Readings -/

/-- The value of a reading within a measuring range; none when the sensor is open or the value lies outside. -/
def readingWithin (low high : Int) : Reading → Option Int
  | .openCircuit => none
  | .value v => if low ≤ v ∧ v ≤ high then some v else none

/-- A plate sensor sample: −40 to 300 °C (R38). -/
def plateReading : Reading → Option Int := readingWithin (-40) 300

/-- A grade or slope reading: −1000 to +1000 (R83). -/
def levellingReading : Reading → Option Int := readingWithin (-1000) 1000

/-- A level or tunnel reading: 0 to 100 % (R118). -/
def feedReading : Reading → Option Int := readingWithin 0 100

/-- A width reading: 0 to 300 cm (R3). -/
def widthReading : Reading → Option Int := readingWithin 0 300

/-- A spot of a sweep: valid from −20 to 300 °C when the sweep is GOOD (R133). -/
def spotReading (good : Bool) (v : Int) : Option Int := if good then readingWithin (-20) 300 (.value v) else none

/-- A sensor record after a reading: stored and VALID when valid, FAULT with the last reading kept otherwise; the silence timer
restarts in either case (R83, R118). -/
def Sensor.taken (r : Sensor) (valid : Option Int) (expiry : Nat) : Sensor :=
  match valid with
  | some v => ⟨some v, false, some expiry⟩
  | none => ⟨r.last, true, some expiry⟩

/-- A sensor record after the expiry of its silence timer (R83, R118). -/
def Sensor.silent (r : Sensor) : Sensor := ⟨r.last, true, none⟩

/-- The last valid reading while the status is VALID. -/
def Sensor.reading (r : Sensor) : Option Int := if r.fault then none else r.last

/-! ## Settings pages (R164, R165) -/

def ZoneOrder.ofCode (n : Nat) : ZoneOrder := if n = 1 then .rotating else .fixed
def ZoneOrder.code : ZoneOrder → Nat
  | .fixed => 0
  | .rotating => 1

def ResumePolicy.ofCode (n : Nat) : ResumePolicy := if n = 1 then .current else .saved
def ResumePolicy.code : ResumePolicy → Nat
  | .saved => 0
  | .current => 1

/-- A restart choice code: 0 is REDO, and every other code is or becomes DROP (R165). -/
def RestartChoice.ofCode (n : Nat) : RestartChoice := if n = 0 then .redo else .drop
def RestartChoice.code : RestartChoice → Nat
  | .redo => 0
  | .drop => 1

def RingMode.ofCode (n : Nat) : RingMode := if n = 1 then .hold else .wrap
def RingMode.code : RingMode → Nat
  | .wrap => 0
  | .hold => 1

/-- A row step: itself when it is one of the four, otherwise the largest of the four not above it, or 25 (R165). -/
def rowStepOf (n : Nat) : Nat := if n < 50 then 25 else if n < 100 then 50 else if n < 200 then 100 else 200

/-- The HEAT page held for the fields carried. -/
def HeatPage.ofFields (f : HeatFields) : HeatPage where
  capacity := clampNat 0 6000 f.capacity
  setpoint := clampNat 80 180 f.setpoint
  band := clampNat 2 40 f.band
  parkSetpoint := clampNat 60 120 f.parkSetpoint
  nominalVoltage := clampNat 200 480 f.nominalVoltage
  sagPercent := clampNat 70 98 f.sagPercent
  zoneOrder := .ofCode f.zoneOrder

/-- The fields that a page would carry. -/
def HeatPage.fields (p : HeatPage) : HeatFields :=
  ⟨p.capacity, p.setpoint, p.band, p.parkSetpoint, p.nominalVoltage, p.sagPercent, p.zoneOrder.code⟩

def LevelPage.ofFields (f : LevelFields) : LevelPage where
  gradeDeadband := clampNat 5 100 f.gradeDeadband
  slopeDeadband := clampNat 2 100 f.slopeDeadband
  gradeGain := clampNat 1 100 f.gradeGain
  slopeGain := clampNat 1 100 f.slopeGain
  minPulse := clampNat 5 50 f.minPulse
  deadTime := clampNat 0 500 f.deadTime
  settleDistance := clampNat 10 200 f.settleDistance
  resumePolicy := .ofCode f.resumePolicy
  restartChoice := .ofCode f.restartChoice

def LevelPage.fields (p : LevelPage) : LevelFields :=
  ⟨p.gradeDeadband, p.slopeDeadband, p.gradeGain, p.slopeGain, p.minPulse, p.deadTime, p.settleDistance,
    p.resumePolicy.code, p.restartChoice.code⟩

/-- The feed law's fields of one drive, clamped. -/
def clampGains (g : FeedGains) : FeedGains := ⟨clampNat 0 100 g.kff, clampNat 0 50 g.kl, clampNat 10 90 g.setpoint⟩

def FeedPage.ofFields (f : FeedFields) : FeedPage where
  conveyor := clampGains f.conveyor
  auger := clampGains f.auger
  boost := clampNat 0 30 f.boost
  stallTime := clampNat 500 5000 f.stallTime

def FeedPage.fields (p : FeedPage) : FeedFields := ⟨p.conveyor, p.auger, p.boost, p.stallTime⟩

/-- A mark window, clamped; its enable is kept. -/
def clampWindow (w : MarkWindow) : MarkWindow :=
  ⟨w.enabled, clampNat 1 15 w.tag, clampNat 0 Config.maxChainage w.start, clampNat 1 100000 w.length⟩

def RecordPage.ofFields (f : RecordFields) : RecordPage where
  rowStep := rowStepOf f.rowStep
  ringMode := .ofCode f.ringMode
  coldThreshold := clampNat 80 160 f.coldThreshold
  windows := ⟨clampWindow f.windows.z0, clampWindow f.windows.z1, clampWindow f.windows.z2, clampWindow f.windows.z3⟩

def RecordPage.fields (p : RecordPage) : RecordFields := ⟨p.rowStep, p.ringMode.code, p.coldThreshold, p.windows⟩

def TravelPage.ofFields (f : TravelFields) : TravelPage where
  pulsesPerMetre := clampNat 100 20000 f.pulsesPerMetre
  stopTime := clampNat 1 10 f.stopTime

def TravelPage.fields (p : TravelPage) : TravelFields := ⟨p.pulsesPerMetre, p.stopTime⟩

/-- One or more fields were clamped or replaced as the page was taken (R165). -/
def SettingsFields.changed : SettingsFields → Bool
  | .heat f => (HeatPage.ofFields f).fields != f
  | .level f => (LevelPage.ofFields f).fields != f
  | .feed f => (FeedPage.ofFields f).fields != f
  | .record f => (RecordPage.ofFields f).fields != f
  | .travel f => (TravelPage.ofFields f).fields != f

end Sys2Proof.Machine
end

