-- ==== Sys2Proof/Machine/Status.lean ====
section
/-! DEFINITION. The STATUS bulletin (R171): forming its content, offering it, and the whole of an event with the one STATUS offer
its changes cause (R16, R34, R171). -/

namespace Sys2Proof.Machine

/-- A page slot's bit in the held set, and in the stale set (Section 12.3). -/
def heldBit {α : Type} (slot : Option (Held α)) (weight : Nat) : Nat := if slot.isSome then weight else 0
def staleBit {α : Type} (slot : Option (Held α)) (weight : Nat) : Nat := if isStale slot then weight else 0

/-- The code of a zone in STATUS: 0 for an ABSENT zone. -/
def State.zoneCode (s : State) (z : Fin 4) : Nat := if s.straps.zoneFitted z then (s.heat.zones.get z).state.code else 0

/-- What a STATUS says of the resume record. -/
def ResumeRecord.report (r : ResumeRecord) : ResumeReport := ⟨r.chainage, r.epoch.toNat, r.reading, r.move.isSome, r.nested⟩

/-- What a STATUS says of the last command outcome. -/
def CommandOutcome.report (o : CommandOutcome) : OutcomeReport :=
  ⟨o.kind.code, o.function.map (·.code), o.sender.val, o.refused.isSome, reasonCode o.refused⟩

/-- The heard set as a number: station n at 2^n. -/
def State.heardBits (s : State) : Nat := (s.heard.map fun n => 2 ^ n.val).sum

/-- The content of a STATUS, from what the blocks hold at this moment (R171). -/
def State.formStatus (s : State) : StatusContent where
  station := s.sup.station.code
  resetCause := s.sup.resetCause.code
  parkOption := parkOptionCode s.sup.option
  heatingOn := s.heat.mode
  rowOpen := s.rows.openRow.isSome
  encoder := s.straps.encoder
  tow := s.levelling
  owner := s.owner
  scanner := s.straps.scanner
  levelSensor := s.straps.levelSensor
  fitted := s.straps.fitted
  heating := s.heating.code
  shedStanding := s.load.standing
  shedStatus := s.load.status.code
  ack := s.load.ack.code
  zones := .ofFn s.zoneCode
  sideMode := sideModeCode s.level.mode
  condition := s.level.condition.code
  holdCause := s.level.causeShown
  partner := stationField s.level.partner
  resume := s.level.resume.map (·.report)
  conveyorMode := driveModeCode s.feed.conveyor.mode
  conveyorCondition := s.feed.conveyor.condition.code
  augerMode := driveModeCode s.feed.auger.mode
  augerCondition := s.feed.auger.condition.code
  travelState := s.travel.state.code
  source := s.travel.source.code
  sourceChanges := s.travel.sourceChanges
  heatPending := s.heat.pending
  levelPending := s.level.pending
  feedPending := s.feed.pending
  recordPending := s.rows.pending
  held :=
    heldBit s.settings.heat 16 + heldBit s.settings.level 8 + heldBit s.settings.feed 4 + heldBit s.settings.record 2 +
      heldBit s.settings.travel 1
  stale :=
    staleBit s.settings.heat 16 + staleBit s.settings.level 8 + staleBit s.settings.feed 4 + staleBit s.settings.record 2 +
      staleBit s.settings.travel 1
  ringCount := s.ring.rows.length
  dropped := s.ring.dropped.toNat % 65536
  overwritten := s.ring.overwritten.toNat % 65536
  rowStart := (s.rows.openRow.map (·.start)).getD 0
  receiveErrors := s.line.receiveErrors
  heard := s.heardBits
  serial := s.sup.serial.toNat
  outcome := s.sup.outcome.map (·.report)
  overflow := decide (Config.listedAlarms < s.alarms.length)
  alarms := (s.alarms.take Config.listedAlarms).map (·.code)

/-- The SSV forms a STATUS at this moment and offers it (R171). -/
def State.offerStatus (s : State) : State :=
  let o := s.offer (.status s.formStatus s.sup.formed)
  { o with sup := { o.sup with formed := s.sup.formed + 1, offerDue := false } }

/-- The end of an event that began at `before`: when it changed the alarm set or a state that STATUS carries, or a block asked
for it, one STATUS is offered, which carries every change (R34, R171). Nothing is offered while a reset is asserted (R178). -/
def State.reported (before after : State) : State :=
  if after.phase == .running && (after.sup.offerDue || before.statusStates != after.statusStates) then after.offerStatus
  else after

/-- An event taken whole: what the blocks do, and the STATUS offer its changes cause. While a reset is asserted the station takes
no event (R178, R179). -/
def State.take (s : State) (effect : State → State) : State :=
  if s.phase == .running then State.reported s (effect s) else s

/-- The expiry of a timer: an event when the timer runs and its time has come, and none otherwise (assumption 2). -/
def State.takeExpiry (s : State) (timer : Option Nat) (effect : State → State) : State :=
  if due timer s.now then s.take effect else s

end Sys2Proof.Machine
end

