-- ==== Sys2Proof/Machine/FeedOps.lean ====
section
/-! DEFINITION. The Feed Controller: level sensors (R118), drive modes (R119, R120), the side level view (R122), the feed law and
the rate limit (R123, R124), speed capture and stall (R125, R126), sensor faults (R127), and the control period (R121). -/

namespace Sys2Proof.Machine

/-! ## Sensors -/

/-- The record of a feed sensor. -/
def Feed.sensor (f : Feed) : FeedSensor → Sensor
  | .level => f.level
  | .tunnel => f.tunnel

/-- The record of a feed sensor replaced. -/
def Feed.setSensor (f : Feed) (sensor : FeedSensor) (r : Sensor) : Feed :=
  match sensor with
  | .level => { f with level := r }
  | .tunnel => { f with tunnel := r }

/-- The station reads a feed sensor: the level sensor where it is fitted, the tunnel sensor on a feed owner (R116). -/
def State.readsFeedSensor (s : State) : FeedSensor → Bool
  | .level => s.straps.levelSensor
  | .tunnel => s.owner

/-- A level or tunnel reading (R118). -/
def State.takeFeedReading (s : State) (sensor : FeedSensor) (reading : Reading) : State :=
  if s.readsFeedSensor sensor then
    { s with
      feed := s.feed.setSensor sensor ((s.feed.sensor sensor).taken (feedReading reading) (s.now + Config.feedSilence)) }
  else s

/-- A level or tunnel sensor has been silent for 300 ms (R118). -/
def State.feedSilent (s : State) (sensor : FeedSensor) : State :=
  { s with feed := s.feed.setSensor sensor (s.feed.sensor sensor).silent }

/-! ## Drive modes -/

/-- Why a station that is no feed owner refuses (R119). -/
def State.unfittedFeed (s : State) : Option Reason :=
  if s.owner then none else if s.straps.ownerStrap then some .strappedOff else some .notFitted

/-- Why a MODE CONVEYOR or AUGER is refused, if it is (R119). -/
def State.driveModeRefusal (s : State) (m : DriveMode) : Option Reason :=
  match s.unfittedFeed with
  | some r => some r
  | none =>
    if m != .off && s.parked then some .parked
    else if m == .auto && s.settings.feed.isNone then some .noPage
    else none

/-- A drive's condition when AUTO is left for MANUAL: SENSOR-HOLD and SENSOR-RAMP become DRIVING (R120). -/
def DriveCondition.manual : DriveCondition → DriveCondition
  | .sensorHold => .driving
  | .sensorRamp => .driving
  | other => other

/-- An accepted MODE on a drive (R120). -/
def DriveRecord.setMode (d : DriveRecord) (m : DriveMode) (command : Nat) : DriveRecord :=
  match m, d.mode with
  | .off, .off => d
  | .off, _ => { d with mode := .off, condition := .none, command := 0, stallTimer := none, holdTimer := none }
  | .manual, .off => { d with mode := .manual, condition := .driving, manualTarget := clampNat 0 1000 command }
  | .manual, .manual => { d with manualTarget := clampNat 0 1000 command }
  | .manual, .auto =>
    { d with
      mode := .manual, manualTarget := clampNat 0 1000 command, condition := d.condition.manual, holdTimer := none }
  | .auto, .off => { d with mode := .auto, condition := .driving }
  | .auto, .manual => { d with mode := .auto }
  | .auto, .auto => d

/-- The function of a drive. -/
def driveFunction : Drive → CommandFunction
  | .conveyor => .conveyor
  | .auger => .auger

/-- A MODE CONVEYOR or AUGER taken by the FDC (R119, R120). -/
def State.takeModeDrive (s : State) (sender : Fin 16) (d : Drive) (m : DriveMode) (command : Nat) : State :=
  match s.driveModeRefusal m with
  | some r => s.judged .mode (some (driveFunction d)) sender (some r)
  | none =>
    ({ s with feed := s.feed.setDrive d ((s.feed.drive d).setMode m command) } : State).judged .mode
      (some (driveFunction d)) sender none

/-! ## The side level view -/

/-- The entry a peer's FRESH LEVEL gives: it reports the owner's side and a valid level of at most 100 (R122). -/
def viewEntryOf (side : Side) (n : Fin 8) (c : LevelContent) : Option ViewEntry :=
  match c.level with
  | some level =>
    if c.side == side && c.valid && decide (level ≤ 100) then some ⟨n, c.kind, level, c.edgeCold⟩ else none
  | none => none

/-- The entry of a station in the side level view: a peer's from its LEVEL slot, the owner's from its own sensor (R122). -/
def State.viewEntry (s : State) (n : Fin 8) : Option ViewEntry :=
  if n = s.straps.station then
    if s.straps.levelSensor then s.feed.level.reading.map fun v => ⟨n, .main, v.toNat, s.rows.edgeCold⟩ else none
  else
    match (s.line.peers.get n).level.data with
    | some c => viewEntryOf s.straps.side n c
    | none => none

/-- The side level view, in the order of station numbers (R122). -/
def State.sideView (s : State) : List ViewEntry := stations.filterMap s.viewEntry

/-- The rank of a section kind, outermost first (R122). -/
def outerRank : SectionKind → Nat
  | .boltOn => 0
  | .extension => 1
  | .main => 2

/-- The outermost entry, of the lowest station number among entries of that kind: the first of a view in the order of station
numbers that no later one outranks (R122). -/
def outermost : List ViewEntry → Option ViewEntry
  | [] => none
  | e :: rest =>
    match outermost rest with
    | none => some e
    | some o => if outerRank o.kind < outerRank e.kind then some o else some e

/-- Step 2 of a control period: the view rebuilt, the auger source and the edge-cold used chosen (R122). -/
def State.buildView (s : State) : State :=
  { s with
    feed :=
      { s.feed with
        view := s.sideView
        source :=
          match outermost s.sideView with
          | some e => .station e.station
          | none => .tunnel
        edgeColdUsed :=
          match outermost s.sideView with
          | some e => e.edgeCold
          | none => false } }

/-- The auger level: the source's level, or the tunnel sensor's reading when the view is empty (R122). -/
def Feed.augerLevel (f : Feed) : Option Int :=
  match outermost f.view with
  | some e => some (e.level : Int)
  | none => f.tunnel.reading

/-- The level a drive's law reads: L_c for the conveyor, L_a for the auger (R123, R127). -/
def Feed.levelOf (f : Feed) : Drive → Option Int
  | .conveyor => f.tunnel.reading
  | .auger => f.augerLevel

/-! ## The feed law, the rate limit and the stall timer -/

/-- The feed speed v: the own speed in PAVING and above 0, otherwise 0 (R121). -/
def State.feedSpeed (s : State) : Nat := if s.travel.state == .paving && decide (0 < s.travel.speed) then s.travel.speed.toNat else 0

/-- A drive's fields of a FEED page. -/
def FeedPage.gains (page : FeedPage) : Drive → FeedGains
  | .conveyor => page.conveyor
  | .auger => page.auger

/-- The level setpoint used: the auger's is raised by the boost while the edge-cold used is set (R123). -/
def FeedPage.setpointUsed (page : FeedPage) (d : Drive) (edgeCold : Bool) : Nat :=
  if d == .auger && edgeCold then min 95 ((page.gains d).setpoint + page.boost) else (page.gains d).setpoint

/-- The feed law's target (R123). -/
def feedTarget (kff v kl setpoint : Nat) (level : Int) : Nat :=
  (clampInt 0 1000 (((kff * v / 10 : Nat) : Int) + (kl : Int) * ((setpoint : Int) - level))).toNat

/-- The command after a control period's move toward its target (R124). -/
def rateLimited (command target : Nat) : Nat :=
  if command + Config.rateLimit < target then command + Config.rateLimit
  else if target + Config.rateLimit < command then command - Config.rateLimit
  else target

/-- The stall time in clock ticks (R126). -/
def Feed.stallTime (f : Feed) : Nat :=
  match f.page with
  | some page => Config.ms page.stallTime
  | none => Config.defaultStallTime

/-- The stall timer judged against the new command at step 5 (R126). -/
def stallAfter (timer : Option Nat) (before after now time : Nat) : Option Nat :=
  if after < Config.stallCommand then none
  else if before < Config.stallCommand then some (now + time)
  else timer

/-- The target of a drive's step 4 and its record with the condition judged (R121, R127): the manual target in MANUAL; in AUTO the
law's target while its level is present, the held command in SENSOR-HOLD, 0 in SENSOR-RAMP. -/
def DriveRecord.judge (d : DriveRecord) (law : Option Nat) (now : Nat) : DriveRecord × Nat :=
  match d.mode with
  | .manual => (d, d.manualTarget)
  | .auto =>
    match law, d.condition with
    | some target, _ => ({ d with condition := .driving, holdTimer := none }, target)
    | none, .driving => ({ d with condition := .sensorHold, holdTimer := some (now + Config.holdTime) }, d.command)
    | none, .sensorHold => (d, d.command)
    | none, .sensorRamp => (d, 0)
    | none, _ => (d, d.command)
  | .off => (d, d.command)

/-- Steps 4 and 5 for one drive whose mode is MANUAL or AUTO and which is not STALLED (R121). -/
def DriveRecord.runPeriod (d : DriveRecord) (law : Option Nat) (now stallTime : Nat) : DriveRecord :=
  if d.mode == .off || d.condition == .stalled then d
  else
    let judged := d.judge law now
    let command := rateLimited d.command judged.2
    { judged.1 with command := command, stallTimer := stallAfter d.stallTimer d.command command now stallTime }

/-- The law's target for a drive, when its level input is present (R123, R127). -/
def State.lawTarget (s : State) (d : Drive) : Option Nat :=
  match s.feed.page, s.feed.levelOf d with
  | some page, some level =>
    some
      (feedTarget (page.gains d).kff s.feedSpeed (page.gains d).kl (page.setpointUsed d s.feed.edgeColdUsed) level)
  | _, _ => none

/-- A FEED page held and not yet applied is applied (R128). -/
def State.applyFeedPage (s : State) : State :=
  if s.feed.pending then
    match s.settings.feed with
    | some held => ({ s with feed := { s.feed with page := some held.page, pending := false } } : State).askStatus
    | none => s
  else s

/-- Steps 4 and 5 for both drives. -/
def State.runDrives (s : State) : State :=
  { s with
    feed :=
      { s.feed with
        conveyor := s.feed.conveyor.runPeriod (s.lawTarget .conveyor) s.now s.feed.stallTime
        auger := s.feed.auger.runPeriod (s.lawTarget .auger) s.now s.feed.stallTime } }

/-- A control period (R121). -/
def State.controlDrives (s : State) : State :=
  let timed : State := { s with feed := { s.feed with periodTimer := s.feed.periodTimer.map (· + Config.controlPeriod) } }
  timed.applyFeedPage.buildView.runDrives

/-- A drive's record replaced. -/
def State.setDrive (s : State) (d : Drive) (r : DriveRecord) : State := { s with feed := s.feed.setDrive d r }

/-- A drive's hold timer expires (R127). -/
def DriveRecord.holdOver (d : DriveRecord) : DriveRecord := { d with condition := .sensorRamp, holdTimer := none }

/-- A drive's stall timer expires (R126). -/
def DriveRecord.stall (d : DriveRecord) : DriveRecord :=
  { d with condition := .stalled, command := 0, stallTimer := none, holdTimer := none }

/-- A drive's record after a speed pulse (R125, R126). A measured time of 0 is a contact bounce. -/
def DriveRecord.pulse (d : DriveRecord) (now stallTime : Nat) : DriveRecord :=
  let restarted := d.stallTimer.map fun _ => now + stallTime
  match d.lastPulse with
  | some last =>
    if now - last = 0 then d
    else
      { d with
        period := if now - last ≤ Config.maxCapture then some (now - last) else none
        lastPulse := some now, stallTimer := restarted }
  | none => { d with period := none, lastPulse := some now, stallTimer := restarted }

/-- A drive's speed pulse, at a feed owner station (R125). -/
def State.takeSpeedPulse (s : State) (d : Drive) : State :=
  if s.owner then s.setDrive d ((s.feed.drive d).pulse s.now s.feed.stallTime) else s

/-- When 6553.5 ms will have passed since a drive's last pulse, while a period is captured (R125). -/
def DriveRecord.captureTimer (d : DriveRecord) : Option Nat :=
  if d.period.isSome then d.lastPulse.map (· + Config.maxCapture) else none

/-- No pulse has come for 6553.5 ms: the captured period is none (R125). -/
def DriveRecord.captureOver (d : DriveRecord) : DriveRecord := { d with period := none }

/-! ## LEVEL -/

/-- What a LEVEL says of a drive. -/
def DriveRecord.report (d : DriveRecord) : DriveReport := ⟨driveModeCode d.mode, d.condition.code, d.command, d.period⟩

/-- The owner part of a LEVEL (R129). -/
def Feed.ownerPart (f : Feed) : OwnerPart where
  conveyor := f.conveyor.report
  auger := f.auger.report
  edgeColdUsed := f.edgeColdUsed
  source := f.source.code
  tunnel := f.tunnel.last.map (·.toNat)
  tunnelFault := f.tunnel.fault

/-- The content of a LEVEL (R129). -/
def State.levelContent (s : State) : LevelContent where
  side := s.straps.side
  kind := s.straps.kind
  level := if s.straps.levelSensor then s.feed.level.last.map (·.toNat) else none
  valid := s.straps.levelSensor && !s.feed.level.fault
  edgeCold := s.rows.edgeCold
  owner := if s.owner then some s.feed.ownerPart else none

end Sys2Proof.Machine
end

