-- ==== Sys2Proof/Machine/RingOps.lean ====
section
/-! DEFINITION. The Record Ring: sequences and positions (R152), commits (R153), the ring's reach (R155), release (R160), and the
collection with its RECORD and COLLECT-END offers (R156 to R159). -/

namespace Sys2Proof.Machine

/-! ## Sequences and the ring -/

/-- The count of held rows. -/
def Ring.count (r : Ring) : Nat := r.rows.length

/-- The oldest sequence: next sequence − count (R152). -/
def Ring.oldest (r : Ring) : Word32 := r.next - BitVec.ofNat 32 r.count

/-- The newest sequence; none when the ring holds no row. -/
def Ring.newest (r : Ring) : Option Word32 := if r.rows.isEmpty then none else some (r.next - 1)

/-- A sequence's place against the oldest: its position when that is 2,147,483,647 or less, and that position less
4,294,967,296, so a negative number, when the sequence lies before the oldest (R152). -/
def Ring.place (r : Ring) (s : Word32) : Int := (s - r.oldest).toInt

/-- A row is handed over: committed, committed over the oldest, or dropped (R153). -/
def Ring.commit (r : Ring) (row : Row) : Ring :=
  if r.count < Config.ringRows then
    { r with rows := r.rows ++ [⟨r.next, row⟩], next := r.next + 1, closed := r.closed + 1 }
  else
    match r.mode with
    | .wrap =>
      { r with
        rows := r.rows.drop 1 ++ [⟨r.next, row⟩], next := r.next + 1, closed := r.closed + 1
        overwritten := r.overwritten + 1 }
    | .hold => { r with closed := r.closed + 1, dropped := r.dropped + 1 }

/-- A hand-over would overwrite the oldest row. -/
def Ring.overwrites (r : Ring) : Bool := !decide (r.count < Config.ringRows) && r.mode == .wrap

/-- The RRG takes a kept row; an overwrite raises RING-OVERWRITE (R153). -/
def State.commitRow (s : State) (row : Row) : State :=
  if s.ring.overwrites then ({ s with ring := s.ring.commit row } : State).raise .ringOverwrite
  else { s with ring := s.ring.commit row }

/-- The ring's reach in an epoch: the largest start plus length among the held rows of that epoch (R155). -/
def Ring.reach (r : Ring) (epoch : BitVec 8) : Option Nat :=
  r.rows.foldl
    (fun acc h =>
      if h.row.epoch == epoch then
        match acc with
        | none => some (h.row.start + h.row.length)
        | some m => some (max m (h.row.start + h.row.length))
      else acc)
    none

/-- The number of rows a RELEASE up to a sequence removes (R160). -/
def Ring.releaseCount (r : Ring) (upto : Word32) : Nat :=
  if r.rows.isEmpty then 0
  else if r.place upto < 0 then 0
  else min ((r.place upto).toNat + 1) r.count

/-- The ring after a RELEASE (R160). -/
def Ring.releaseTo (r : Ring) (upto : Word32) : Ring :=
  { r with
    rows := r.rows.drop (r.releaseCount upto)
    released := r.released + BitVec.ofNat 32 (r.releaseCount upto) }

/-! ## Collection -/

/-- The COLLECT-END content of an answer, with the ring as it stands at the offer (R159). -/
def Ring.answer (r : Ring) (requester : Fin 16) (outcome : CollectOutcome) (firstAsked : Word32) (firstSent : Option Word32)
    (sent skipped : Nat) : CollectEndContent where
  requester := requester
  outcome := outcome
  firstAsked := firstAsked
  firstSent := firstSent
  sent := sent
  skipped := skipped
  oldest := r.oldest
  newest := r.newest
  overwritten := r.overwritten
  dropped := r.dropped
  closed := r.closed
  released := r.released

/-- The collection record replaced. -/
def State.setCollection (s : State) (c : Collection) : State := { s with ring := { s.ring with collection := c } }

/-- An owed answer is offered when none is outstanding: the final answer first, otherwise the busy answer (R159). -/
def State.offerAnswer (s : State) : State :=
  let c := s.ring.collection
  if c.answerOutstanding then s
  else
    match c.final, c.busy with
    | .owed outcome, _ =>
      (s.setCollection { c with final := .offered, answerOutstanding := true }).offer
        (.collectEnd
          (s.ring.answer (c.requester.getD 0) outcome (c.firstAsked.getD 0) c.firstSent c.sent c.skipped))
    | _, some b =>
      (s.setCollection { c with busy := none, answerOutstanding := true }).offer
        (.collectEnd (s.ring.answer b.requester .busy b.firstAsked none 0 0))
    | _, none => s

/-- Step 1 of R158: the sequences of the range from `next` that the ring no longer holds are skipped. -/
def Ring.skippedFrom (r : Ring) (next last : Word32) : Nat :=
  if r.place next < 0 then (min (r.place last) (-1) - r.place next + 1).toNat else 0

/-- Where the next offer starts after that. -/
def Ring.resumeFrom (r : Ring) (next : Word32) : Word32 := if r.place next < 0 then r.oldest else next

/-- The held row with a sequence. -/
def Ring.held (r : Ring) (s : Word32) : Option HeldRow := r.rows.find? fun h => h.seq == s

/-- The next RECORD of the collection is offered, or its final answer becomes owed (R158). -/
def State.offerNextRecord (s : State) : State :=
  let c := s.ring.collection
  match c.range, c.next with
  | .span _ last, some next =>
    let skipped := c.skipped + s.ring.skippedFrom next last
    let from' := s.ring.resumeFrom next
    let done : State :=
      (s.setCollection { c with skipped := skipped, next := some from', final := .owed .done }).offerAnswer
    if s.ring.place last < s.ring.place from' then done
    else
      match s.ring.held from' with
      | none => done
      | some held =>
        (s.setCollection
          { c with
            skipped := skipped, next := some (from' + 1), outstanding := true
            firstSent := some (c.firstSent.getD from') }).offer (.record ⟨c.requester.getD 0, held⟩)
  | _, _ => s

/-- The count a COLLECT asks for: 0 is taken as 1 and more than 16 as 16 (R157). -/
def collectCount (count : Nat) : Nat := clampNat 1 Config.collectRows count

/-- The range of a collection, fixed from the ring at receipt (R157). -/
def Ring.rangeFor (r : Ring) (first : Word32) (count : Nat) : CollectRange :=
  let last := first + BitVec.ofNat 32 (collectCount count - 1)
  if r.rows.isEmpty then .empty
  else if (r.count : Int) ≤ r.place first then .empty
  else if r.place last < 0 then .empty
  else
    .span (if r.place first < 0 then r.oldest else first)
      (if r.place last < (r.count : Int) then last else r.next - 1)

/-- The RRG takes a COLLECT: answered BUSY while a collection is in flight, accepted otherwise (R157). With an empty range, for which
R157 sets no next to offer, that field becomes absent: DESIGN CHOICE (assumption 29), safe. -/
def State.takeCollect (s : State) (sender : Fin 16) (first : Word32) (count : Nat) : State :=
  let c := s.ring.collection
  if c.inFlight then (s.setCollection { c with busy := some ⟨sender, first⟩ }).offerAnswer
  else
    let accepted : Collection :=
      { c with
        inFlight := true, requester := some sender, firstAsked := some first, range := s.ring.rangeFor first count
        firstSent := none, sent := 0, skipped := 0 }
    match s.ring.rangeFor first count with
    | .span low _ => (s.setCollection { accepted with next := some low }).offerNextRecord
    | _ => (s.setCollection { accepted with next := none, final := .owed .empty }).offerAnswer

/-- The report that the outstanding RECORD has been sent (R158). -/
def State.recordSent (s : State) : State :=
  let c := s.ring.collection
  if c.outstanding then (s.setCollection { c with sent := c.sent + 1, outstanding := false }).offerNextRecord else s

/-- The report that a COLLECT-END has been sent: the final answer's ends the collection; then any answer still owed is offered
(R159). The ended collection's other fields stay: DESIGN CHOICE (assumption 29), safe. -/
def State.collectEndSent (s : State) (outcome : CollectOutcome) : State :=
  let c := s.ring.collection
  if outcome == .busy then (s.setCollection { c with answerOutstanding := false }).offerAnswer
  else (s.setCollection { c with answerOutstanding := false, final := .absent, inFlight := false }).offerAnswer

end Sys2Proof.Machine
end

