-- ==== Sys2Proof/Machine/RowOps.lean ====
section
/-! DEFINITION. The Row Builder: sweeps (R133, R135, R137), opening and closing rows (R138 to R142), the content of a closed row
(R143 to R146), the edge-cold tracker (R147) and the RECORD page (R148). -/

namespace Sys2Proof.Machine

/-! ## Sweeps -/

/-- A cell after a spot value (R134, R135). The minimum goes on at a full count: DEDUCED (assumption 30), unsafe. -/
def Cell.add (c : Cell) (v : Int) : Cell :=
  { sum := if c.count < Config.maxCount then c.sum + v else c.sum
    count := saturate Config.maxCount (c.count + 1)
    minimum := some (min v (c.minimum.getD v)) }

/-- The cells after the spots of a sweep that counts. -/
def addSpots (good : Bool) : List Cell → List Int → List Cell
  | [], _ => []
  | c :: cells, [] => c :: addSpots good cells []
  | c :: cells, v :: spots =>
    (match spotReading good v with
      | some t => c.add t
      | none => c) :: addSpots good cells spots

/-- The temperatures of the zones REGULATING at this moment (R59). -/
def State.regulatingTemps (s : State) : List Int :=
  s.heat.zones.toList.filterMap fun z => if z.state == .regulating then z.temperature else none

/-- The rounded mean of those temperatures; none when there is none (R135). -/
def State.plateMean (s : State) : Option Int :=
  if s.regulatingTemps.isEmpty then none else some (roundedMean s.regulatingTemps.sum s.regulatingTemps.length)

/-- A sweep counts (R135). -/
def State.sweepCounts (s : State) : Bool :=
  s.travel.state == .paving &&
    (match s.rows.highWater with
      | some mark => decide (mark ≤ s.rows.lastChainage)
      | none => true)

/-- The accumulator after a sweep that counts (R135). -/
def OpenRow.addSweep (r : OpenRow) (good : Bool) (spots : List Int) (speed : Int) (plate : Option Int) : OpenRow :=
  { r with
    cells := addSpots good r.cells spots
    speedSum := if r.speedCount < Config.maxCount then r.speedSum + speed else r.speedSum
    speedCount := saturate Config.maxCount (r.speedCount + 1)
    plateSum :=
      match plate with
      | some t => if r.plateCount < Config.maxCount then r.plateSum + t else r.plateSum
      | none => r.plateSum
    plateCount := if plate.isSome then saturate Config.maxCount (r.plateCount + 1) else r.plateCount
    sweeps := saturate Config.maxCount (r.sweeps + 1) }

/-- Shed seen after a sweep (R137). -/
def OpenRow.seeShed (r : OpenRow) (shed : Bool) : OpenRow :=
  if shed then { r with flags := { r.flags with shedSeen := true } } else r

/-- The open row after a sweep. -/
def State.sweptRow (s : State) (good : Bool) (spots : List Int) (r : OpenRow) : OpenRow :=
  let counted := if s.sweepCounts then r.addSweep good spots s.travel.speed s.plateMean else r
  counted.seeShed s.shedIndication

/-- A sweep taken (R133, R135, R137). It is discarded while the scanner power is OFF. -/
def State.takeSweep (s : State) (good : Bool) (spots : List Int) : State :=
  if s.straps.scanner && s.rows.scannerOn then
    { s with
      rows :=
        { s.rows with
          silence := if good then .running (s.now + Config.scannerSilence) else s.rows.silence
          openRow := s.rows.openRow.map (s.sweptRow good spots) } }
  else s

/-- The open row with a flag of R137 set. -/
def OpenRow.setTripSeen (r : OpenRow) : OpenRow := { r with flags := { r.flags with tripSeen := true } }
def OpenRow.setScannerFault (r : OpenRow) : OpenRow := { r with flags := { r.flags with scannerFault := true } }

/-- A notice of a zone trip to the Row Builder (R56, R137). -/
def State.noteTrip (s : State) : State := { s with rows := { s.rows with openRow := s.rows.openRow.map (·.setTripSeen) } }

/-- When the scanner's silence timer expires. -/
def Silence.timer : Silence → Option Nat
  | .running t => some t
  | .expired => none
  | .stopped => none

/-- The scanner's silence timer has expired: SCANNER-FAULT, marked in the open row (R133, R137). -/
def State.scannerSilent (s : State) : State :=
  { s with rows := { s.rows with silence := .expired, openRow := s.rows.openRow.map (·.setScannerFault) } }

/-! ## Opening -/

/-- The next multiple of a row step above a chainage. -/
def nextMultiple (step c : Nat) : Nat := (c / step + 1) * step

/-- Where the next row starts (R138). -/
def State.rowStart (s : State) (step : Nat) : Nat :=
  let c := s.rows.lastChainage
  match s.rows.continuation with
  | some p => if c < nextMultiple step p then p else c / step * step
  | none =>
    match s.ring.reach s.rows.lastEpoch with
    | some reach => max (c / step * step) reach
    | none => c / step * step

/-- An accumulator at opening (R134, R138). -/
def OpenRow.opened (start step : Nat) (epoch : BitVec 8) (scannerFault : Bool) : OpenRow where
  start := start
  finish := nextMultiple step start
  epoch := epoch
  cells := List.replicate 16 ⟨0, 0, none⟩
  speedSum := 0
  speedCount := 0
  plateSum := 0
  plateCount := 0
  sweeps := 0
  flags := ⟨false, false, false, false, scannerFault⟩
  stoppedTicks := 0
  stoppedSince := none

/-- R138 tested: a row opens when none is open and scanner, page, RUN and PAVING all hold. -/
def State.tryOpenRow (s : State) : State :=
  match s.rows.openRow, s.rows.page with
  | none, some page =>
    if s.straps.scanner && s.sup.station == .run && s.travel.state == .paving then
      { s with
        rows :=
          { s.rows with
            openRow :=
              some (.opened (s.rowStart page.rowStep) page.rowStep s.rows.lastEpoch (s.rows.silence == .expired))
            highWater := some (s.rowStart page.rowStep)
            continuation := none } }
    else s
  | _, _ => s

/-! ## The RECORD page -/

/-- A RECORD page held and not yet applied is applied: copied whole, its ring mode handed to the ring (R148). -/
def State.applyRecordPage (s : State) : State :=
  if s.rows.pending then
    match s.settings.record with
    | some held =>
      ({ s with
          rows := { s.rows with page := some held.page, pending := false }
          ring := { s.ring with mode := held.page.ringMode } } : State).askStatus
    | none => s
  else s

/-! ## The content of a closed row -/

/-- The cells present, k = ceil(16 × W / Wmax) (R143). -/
def cellsPresent (width maxWidth : Nat) : Nat := (16 * width + maxWidth - 1) / maxWidth

/-- A cell's mean, or NO-READING (R143). -/
def Cell.mean (c : Cell) : Option Int := if c.count = 0 then none else some (roundedMean c.sum c.count)

/-- The lowest of the minimums of cells (R144). -/
def lowestMinimum : List Cell → Option Int
  | [] => none
  | c :: cells =>
    match c.minimum, lowestMinimum cells with
    | some a, some b => some (min a b)
    | some a, none => some a
    | none, rest => rest

/-- A cell carries a reading below the cold threshold (R144, R147). -/
def isCold (threshold : Nat) (cell : Option Int) : Bool :=
  match cell with
  | some t => decide (t < (threshold : Int))
  | none => false

/-- A mark window overlaps a row (R145). -/
def windowOverlaps (w : MarkWindow) (start length : Nat) : Bool :=
  w.enabled && decide (w.start < start + length) && decide (start < w.start + w.length)

/-- The tag of the lowest-numbered enabled window that overlaps the row, 0 when none does (R145). -/
def markTag (windows : Quad MarkWindow) (start length : Nat) : Nat :=
  match windows.toList.find? fun w => windowOverlaps w start length with
  | some w => w.tag
  | none => 0

/-- The time a row was stopped, with a stretch still running added (R136), in clock ticks. -/
def OpenRow.stoppedTotal (r : OpenRow) (now : Nat) : Nat :=
  match r.stoppedSince with
  | some since => r.stoppedTicks + (now - since)
  | none => r.stoppedTicks

/-- The screed height the Levelling Controller gives (R103). -/
def State.screedHeight (s : State) : Option Int := if s.levelling then s.level.grade.reading else none

/-- The row formed at a close (R143 to R146). -/
def State.formRow (s : State) (r : OpenRow) (page : RecordPage) (cause : CloseCause) (length : Nat) : Row :=
  let present := r.cells.take (cellsPresent s.width s.straps.maxWidth)
  let means := present.map (·.mean)
  { epoch := r.epoch
    start := r.start
    length := length
    cause := cause
    width := s.width
    cells := means
    minimum := lowestMinimum present
    cold := (means.filter (isCold page.coldThreshold)).length
    mark := markTag page.windows r.start length
    speed := if r.speedCount = 0 then 0 else roundedMean r.speedSum r.speedCount
    plate := if s.straps.fitted = 0 ∨ r.plateCount = 0 then none else some (roundedMean r.plateSum r.plateCount)
    height := s.screedHeight
    flags := r.flags
    stopped := saturate 65535 (r.stoppedTotal s.now / Config.ms 1000) }

/-- The edge of a row is cold: its two outermost present cells both carry a reading below the threshold (R147). -/
def Row.edgeIsCold (row : Row) (threshold : Nat) : Bool :=
  match row.cells.reverse with
  | a :: b :: _ => isCold threshold a && isCold threshold b
  | _ => false

/-- The edge-cold tracker after a closed row (R147). -/
def Rows.judgeEdge (r : Rows) (cold : Bool) : Rows :=
  if cold then
    { r with
      coldRun := saturate 3 (r.coldRun + 1), warmRun := 0
      edgeCold := if 3 ≤ r.coldRun + 1 then true else r.edgeCold }
  else
    { r with
      warmRun := saturate 3 (r.warmRun + 1), coldRun := 0
      edgeCold := if 3 ≤ r.warmRun + 1 then false else r.edgeCold }

/-! ## Closing -/

/-- Steps 4 and 5 of the closing sequence, which a discard takes as well: a waiting page is applied, the open row becomes none,
and R138 is tested (R142, R146, R148). -/
def State.endRow (s : State) : State :=
  let applied := s.applyRecordPage
  ({ applied with rows := { applied.rows with openRow := none } } : State).tryOpenRow

/-- The closing sequence of a kept row (R146). -/
def State.closeKept (s : State) (r : OpenRow) (page : RecordPage) (cause : CloseCause) (length : Nat) : State :=
  let row := s.formRow r page cause length
  let handed := s.commitRow row
  ({ handed with rows := handed.rows.judgeEdge (row.edgeIsCold page.coldThreshold) } : State).endRow

/-- The length of a row closed early at a chainage (R140). -/
def OpenRow.earlyLength (r : OpenRow) (c : Nat) : Nat := if r.start < c then c - r.start else 0

/-- A row closes early: kept, or discarded when its length or its counted sweeps are 0 (R142). -/
def State.closeEarly (s : State) (r : OpenRow) (cause : CloseCause) : State :=
  let length := r.earlyLength s.rows.lastChainage
  match s.rows.page with
  | some page => if length = 0 ∨ r.sweeps = 0 then s.endRow else s.closeKept r page cause length
  | none => s.endRow

/-- The high-water mark and the continuation point after a step or a park close. -/
def Rows.marked (r : Rows) (highWater continuation : Nat) : Rows :=
  { r with highWater := some highWater, continuation := some continuation }

/-- A change of chainage is compared with the open row's end: at or above it the row closes STEP (R139). -/
def State.closeAtEnd (s : State) : State :=
  match s.rows.openRow, s.rows.page with
  | some r, some page =>
    if r.finish ≤ s.rows.lastChainage then
      ({ s with rows := s.rows.marked r.finish r.finish } : State).closeKept r page .step (r.finish - r.start)
    else s
  | _, _ => s

/-- Park entry at the Row Builder: the open row closes early, the scanner goes off (R133, R140). -/
def State.parkRows (s : State) : State :=
  let c := s.rows.lastChainage
  let closed :=
    match s.rows.openRow with
    | some r =>
      ({ s with rows := s.rows.marked (max (s.rows.highWater.getD c) c) (max r.start c) } : State).closeEarly r .park
    | none => s
  { closed with rows := { closed.rows with scannerOn := false, silence := .stopped } }

/-- Wake at the Row Builder of a station with a scanner: power on, silence timer started (R133). -/
def State.wakeRows (s : State) : State :=
  if s.straps.scanner then
    { s with rows := { s.rows with scannerOn := true, silence := .running (s.now + Config.scannerSilence) } }
  else s

/-! ## What the Travel Unit hands the Row Builder -/

/-- The open row's travel flags at a change of travel state (R136). -/
def OpenRow.travelChanged (r : OpenRow) (state : TravelState) (now : Nat) : OpenRow :=
  match state with
  | .stopped | .lost =>
    { r with flags := { r.flags with stopInside := true }, stoppedSince := some (r.stoppedSince.getD now) }
  | .paving => { r with stoppedTicks := r.stoppedTotal now, stoppedSince := none }
  | .reversing =>
    { r with
      flags := { r.flags with reverseInside := true }, stoppedTicks := r.stoppedTotal now, stoppedSince := none }

/-- A change of travel state is taken by the open row, at a rebase before the row closes: DEDUCED (assumption 21), unsafe. -/
def State.markTravel (s : State) : State :=
  { s with rows := { s.rows with openRow := s.rows.openRow.map fun r => r.travelChanged s.travel.state s.now } }

/-- The chainage and epoch as the Travel Unit hands them. -/
def State.handChainage (s : State) : State :=
  { s with rows := { s.rows with lastChainage := s.travel.chainage, lastEpoch := s.travel.epoch } }

/-- A rebase notice at the Row Builder (R141). -/
def State.rebaseRows (s : State) : State :=
  let closed :=
    match s.rows.openRow with
    | some r => s.closeEarly r .rebase
    | none => s
  ({ closed with rows := { closed.rows with highWater := none, continuation := none } } : State).handChainage

/-- A rebase or a change of chainage as the Row Builder takes it (R139, R141). -/
def State.chainageToRows (s : State) (before : Travel) (rebased : Bool) : State :=
  if rebased then s.rebaseRows
  else if before.chainage == s.travel.chainage then s
  else s.handChainage.closeAtEnd

/-- What the Travel Unit hands the Row Builder at the end of one of its events, `before` being the travel record before it
(R34, R136, R138, R139, R141). -/
def State.travelToRows (s : State) (before : Travel) (rebased : Bool) : State :=
  if s.straps.scanner then
    if before.state == s.travel.state then s.chainageToRows before rebased
    else (s.markTravel.chainageToRows before rebased).tryOpenRow
  else s

end Sys2Proof.Machine
end

