-- ==== Sys2Proof/Machine/HeatOps.lean ====
section
/-! DEFINITION. The Heater Controller and the Load Share Unit: trips and their clearing (R53 to R57), the shed handshake (R74 to
R78), sag shedding (R70, R71), the share (R63 to R65), the window boundary (R48 to R52), supply crossings and supply loss (R44 to
R46). -/

namespace Sys2Proof.Machine

/-! ## Zones and trips -/

/-- One zone's record replaced. -/
def State.setZone (s : State) (z : Fin 4) (r : Zone) : State := { s with heat := { s.heat with zones := s.heat.zones.set z r } }

/-- One zone's record. -/
def State.zone (s : State) (z : Fin 4) : Zone := s.heat.zones.get z

/-- A zone record after a trip (R56). -/
def Zone.trip (r : Zone) (cause : TripCause) : Zone :=
  { r with state := .tripped cause, cut := true, out := false, openCount := 0 }

/-- A zone trips, and the Row Builder is told (R56). -/
def State.tripZone (s : State) (z : Fin 4) (cause : TripCause) : State := (s.setZone z ((s.zone z).trip cause)).noteTrip

/-- A zone state is TRIPPED. -/
def ZoneState.isTripped : ZoneState → Bool
  | .tripped _ => true
  | _ => false

/-- The cause that trips a zone by a condition that holds, the first in the order of R55's table. -/
def Zone.standingCause (r : Zone) (leakage : Bool) : Option TripCause :=
  if leakage then some .leakage
  else if r.sensorFault then some .sensor
  else
    match r.temperature with
    | some t => if Config.overtempTrip ≤ t then some .overtemp else none
    | none => none

/-- R55 applied to one fitted zone that is IDLE or REGULATING. -/
def State.judgeZone (s : State) (z : Fin 4) : State :=
  if s.straps.zoneFitted z && !(s.zone z).state.isTripped then
    match (s.zone z).standingCause s.pins.leakage with
    | some cause => s.tripZone z cause
    | none => s
  else s

/-- An operation on each zone in turn. -/
def State.forZones (s : State) (f : State → Fin 4 → State) : State := zones.foldl f s

/-- A zone record after a plate sensor sample (R38). -/
def Zone.sample (r : Zone) (reading : Reading) : Zone :=
  match plateReading reading with
  | some t => { r with temperature := some t, sensorFault := false }
  | none => { r with sensorFault := true }

/-- The plate sensor timer's expiry: each fitted zone is sampled and judged at once (R38, R55). -/
def State.samplePlates (s : State) (samples : Quad Reading) : State :=
  let timed : State := { s with heat := { s.heat with sensorTimer := s.heat.sensorTimer.map (· + Config.heatSensorPeriod) } }
  timed.forZones fun t z =>
    if t.straps.zoneFitted z then (t.setZone z ((t.zone z).sample (samples.get z))).judgeZone z else t

/-- A tripped zone's cause no longer stands in the way of clearing it (R57). -/
def Zone.mayClear (r : Zone) (cause : TripCause) (leakage : Bool) : Bool :=
  match cause with
  | .openElement | .overcurrent => true
  | .sensor => !r.sensorFault
  | .overtemp =>
    !r.sensorFault &&
      (match r.temperature with
        | some t => decide (t < Config.overtempClear)
        | none => false)
  | .leakage => !leakage

/-- A tripped zone judged by its cause: cleared it becomes IDLE, and R55 then applies to it (R57). -/
def State.clearZone (s : State) (z : Fin 4) : State :=
  match (s.zone z).state with
  | .tripped cause =>
    if s.straps.zoneFitted z && (s.zone z).mayClear cause s.pins.leakage then
      (s.setZone z { s.zone z with state := .idle, openCount := 0 }).judgeZone z
    else s
  | _ => s

/-- The trips of the station's zones judged for clearing (R57). -/
def State.clearTrips (s : State) : State := s.forZones fun t z => t.clearZone z

/-- The current in mA exceeds 130 % of the rated current 10 × R / V (R53). -/
def overRated (current rating volts : Nat) : Bool := decide (13000 * rating < current * volts)

/-- The current in mA stays below 10 % of the rated current (R54). -/
def underTenth (current rating volts : Nat) : Bool := decide (current * volts < 1000 * rating)

/-- The nominal voltage of the applied page. -/
def Heat.volts (h : Heat) : Nat := (h.page.map (·.nominalVoltage)).getD 0

/-- A zone's switch current at some moment of a slot (R53). -/
def State.watchCurrent (s : State) (z : Fin 4) (current : Nat) : State :=
  if (s.zone z).out && (s.zone z).state == .regulating && !(s.zone z).cut && overRated current s.straps.rating s.heat.volts then
    s.tripZone z .overcurrent
  else s

/-! ## The HEAT page -/

/-- A HEAT page held and not yet applied is applied by HTC and LSU together (R58, R62). -/
def State.applyHeatPage (s : State) : State :=
  if s.heat.pending then
    match s.settings.heat with
    | some held => ({ s with heat := { s.heat with page := some held.page, pending := false } } : State).askStatus
    | none => s
  else s

/-! ## The shed handshake -/

/-- SHED-ACK offered, with the heating state and whether a window runs at this moment; acknowledgement WAITING (R76). -/
def State.offerShedAck (s : State) : State :=
  ({ s with load := { s.load with ack := .waiting } } : State).offer (.shedAck ⟨s.heating, s.windowRuns⟩)

/-- A SHED-ALL taken by the LSU (R74). -/
def State.takeShedAll (s : State) : State :=
  match s.load.standing, s.load.status with
  | false, .none =>
    if s.windowRuns && s.heating.draws then
      { s with load := { s.load with standing := true, status := .shedding, ack := .notDue } }
    else ({ s with load := { s.load with standing := true, status := .shed } } : State).offerShedAck
  | true, .shed =>
    match s.load.ack with
    | .waiting | .sent => s.offerShedAck
    | _ => s
  | false, .shedding => { s with load := { s.load with standing := true } }
  | false, .shed => ({ s with load := { s.load with standing := true } } : State).offerShedAck
  | true, _ => s

/-- A RESTORE taken by the LSU (R77). -/
def State.takeRestore (s : State) : State :=
  if s.load.standing then
    { s with
      load :=
        { s.load with standing := false, ack := .notDue, status := if s.windowRuns then s.load.status else .none } }
  else s

/-- Step 3 of a boundary: the shed status settled for the new window (R75). -/
def State.settleShed (s : State) : State :=
  match s.load.standing, s.load.status with
  | true, .shedding =>
    let shed : State := { s with load := { s.load with status := .shed, ack := .awaitingDemand } }
    if s.straps.fitted = 0 then shed.offerShedAck else shed
  | false, .shedding | false, .shed => { s with load := { s.load with status := .none, ack := .notDue } }
  | _, _ => s

/-- Entry to NO-SUPPLY at the LSU (R67, R69, R78). The idle demand timer restarts from STARTING too: DEDUCED (assumption 22),
unsafe. -/
def State.loadNoSupply (s : State) : State :=
  let cleared : State :=
    { s with
      load := { s.load with ownDemand := 0, share := 0, idleTimer := some (s.now + Config.idleDemandTime) } }
  match s.load.standing, s.load.status with
  | true, .shedding => ({ cleared with load := { cleared.load with status := .shed } } : State).offerShedAck
  | false, .shedding | false, .shed => { cleared with load := { cleared.load with status := .none } }
  | _, _ => cleared

/-- The report that a DEMAND has been sent: while AWAITING-DEMAND, one that carried demand 0 brings the SHED-ACK (R76). -/
def State.demandSent (s : State) (c : DemandContent) : State :=
  if s.load.ack == .awaitingDemand && c.demand == 0 then s.offerShedAck else s

/-- The report that a SHED-ACK has been sent (R76). -/
def State.shedAckSent (s : State) : State :=
  if s.load.standing then { s with load := { s.load with ack := .sent } } else s

/-! ## Sag shedding -/

/-- The sag threshold in whole volts (R70). -/
def HeatPage.sagThreshold (page : HeatPage) : Nat := page.sagPercent * page.nominalVoltage / 100

/-- The shed factor after a sagging window and after a sound one (R71). -/
def lowerFactor (f : Nat) : Nat := max Config.minShedFactor (f - max 1 (f / 8))
def raiseFactor (f : Nat) : Nat := min Config.maxShedFactor (f + 8)

/-- The window that ends judged against the page under which it ran; without a page the measurement is discarded (R70, R71). -/
def State.judgeSag (s : State) (rms : Nat) : State :=
  match s.heat.page with
  | some page =>
    { s with
      load :=
        { s.load with
          factor := if rms < page.sagThreshold then lowerFactor s.load.factor else raiseFactor s.load.factor } }
  | none => s

/-! ## Demand and share -/

/-- The setpoint of a heating state: the park setpoint in PARK-WARM (R49). -/
def HeatPage.target (page : HeatPage) (h : HeatingState) : Nat := if h == .parkWarm then page.parkSetpoint else page.setpoint

/-- A zone's demand from its error (R49). -/
def zoneDemand (rating band : Nat) (e : Int) : Nat :=
  if (band : Int) ≤ e then rating else if 0 < e then rating * e.toNat / band else 0

/-- A zone's demand at a boundary: 0 unless it is REGULATING (R49). -/
def State.demandOf (s : State) (h : HeatingState) (r : Zone) : Nat :=
  match r.state, s.heat.page, r.temperature with
  | .regulating, some page, some t => zoneDemand s.straps.rating page.band ((page.target h : Int) - t)
  | _, _, _ => 0

/-- A zone record at step 4 of a boundary (R39, R48): REGULATING or IDLE unless TRIPPED, with the cut and the current mark of the
ending window cleared. -/
def Zone.atBoundary (r : Zone) (fitted draws : Bool) : Zone :=
  if fitted then
    { r with
      cut := false, drew := false
      state := if r.state.isTripped then r.state else if draws then .regulating else .idle }
  else r

/-- The four zone records changed alike, each with its number. -/
def State.mapZones (s : State) (f : Fin 4 → Zone → Zone) : State :=
  { s with heat := { s.heat with zones := .ofFn fun z => f z (s.heat.zones.get z) } }

/-- Steps 4 and 5: the zone states of the new window and the demands (R48, R49). -/
def State.demandZones (s : State) : State :=
  let h := s.heating
  s.mapZones fun z r =>
    let r := r.atBoundary (s.straps.zoneFitted z) h.draws
    { r with demand := s.demandOf h r }

/-- The own demand: the sum of the zones' demands (R49). -/
def Heat.ownDemand (h : Heat) : Nat := (h.zones.toList.map (·.demand)).sum

/-- The demand table rebuilt from the FRESH DEMAND slots (R63). -/
def State.demandTable (s : State) : List (Fin 8 × Nat) :=
  stations.filterMap fun n =>
    ((s.line.peers.get n).demand.data).map fun c => (n, if Config.maxPeerDemand < c.demand then Config.maxPeerDemand else c.demand)

/-- The raw share (R64). -/
def rawShare (capacity own total : Nat) : Nat := if total ≤ capacity then own else capacity * own / total

/-- The share (R64). -/
def shareOf (capacity own total factor : Nat) : Nat := rawShare capacity own total * factor / 256

/-- Step 6: the demand table, the total, the share, and the DEMAND that tells them (R63 to R65, R68). -/
def State.takeShare (s : State) : State :=
  let own := if s.heating.draws then s.heat.ownDemand else 0
  let table := s.demandTable
  let total := own + (table.map (·.2)).sum
  let share :=
    match s.heat.page with
    | some page => if s.heating.draws then shareOf page.capacity own total s.load.factor else 0
    | none => 0
  let shared : State := { s with load := { s.load with ownDemand := own, total := total, share := share, table := table } }
  if s.straps.fitted = 0 then shared
  else shared.offer (.demand ⟨own, s.heating, s.load.factor, total⟩)

/-! ## Allocation, duty and placement -/

/-- The zones in the allocation order (R50): from zone 0 in FIXED, from the rotation start zone and round in ROTATING. -/
def allocationOrder (order : ZoneOrder) (start fitted : Nat) : List Nat :=
  (List.range fitted).map fun i => if order == .rotating then (start + i) % fitted else i

/-- The allocations of a share to zones in order, each with its zone number (R50). -/
def allocate : Nat → List (Nat × Nat) → List (Nat × Nat)
  | _, [] => []
  | remaining, (z, d) :: rest => (z, min d remaining) :: allocate (remaining - min d remaining) rest

/-- The zone order of the applied page; FIXED while there is none. -/
def Heat.order (h : Heat) : ZoneOrder :=
  match h.page with
  | some page => page.zoneOrder
  | none => .fixed

/-- The zones of a list of numbers, each with its demand. -/
def Heat.demands (h : Heat) (order : List Nat) : List (Nat × Nat) :=
  order.map fun z => (z, (h.zones.toList.map (·.demand)).getD z 0)

/-- The allocation of a zone at this boundary (R50). -/
def State.allocation (s : State) (z : Fin 4) : Nat :=
  let order := allocationOrder s.heat.order s.heat.rotationStart.val s.straps.fitted
  match (allocate s.load.share (s.heat.demands order)).find? fun p => p.1 == z.val with
  | some p => p.2
  | none => 0

/-- The duty of an allocation (R51). -/
def dutyOf (allocation rating : Nat) : Nat := Config.windowSlots * allocation / rating

/-- A slot is one of a zone's on-slots: the `duty` slots from its offset, wrapping (R51). -/
def isOnSlot (slot offset duty : Nat) : Bool :=
  decide ((slot + Config.windowSlots - offset) % Config.windowSlots < duty)

/-- A zone record with its output set for a slot (R51). -/
def Zone.setOutput (r : Zone) (slot offset : Nat) : Zone :=
  { r with out := r.state == .regulating && !r.cut && isOnSlot slot offset r.duty }

/-- Each zone's output set for the slot that begins (R51). -/
def State.setOutputs (s : State) : State :=
  s.mapZones fun z r => if s.straps.zoneFitted z then r.setOutput s.heat.slot (s.straps.offset z) else r

/-- Step 7: the share allocated, the duties loaded, slot 0 begun (R48, R50, R51). -/
def State.loadWindow (s : State) : State :=
  let loaded := s.mapZones fun z r => if s.straps.zoneFitted z then { r with duty := dutyOf (s.allocation z) s.straps.rating } else r
  ({ loaded with heat := { loaded.heat with slot := 0 } } : State).setOutputs

/-- The next rotation start zone among the fitted ones (R52). -/
def nextStart (start : Fin 4) (fitted : Nat) : Fin 4 := if start.val + 1 < fitted then start + 1 else 0

/-- Step 8: in ROTATING order the rotation start zone advances (R52). -/
def State.rotate (s : State) : State :=
  if s.heat.order == .rotating then
    { s with heat := { s.heat with rotationStart := nextStart s.heat.rotationStart s.straps.fitted } }
  else s

/-! ## The window boundary -/

/-- A zone is tested for OPEN at a boundary: REGULATING throughout, a duty of 5 or more, never cut (R54). -/
def Zone.tested (r : Zone) : Bool := r.state == .regulating && !r.cut && decide (Config.openTestDuty ≤ r.duty)

/-- One zone's open count at step 1, which may trip it OPEN (R54). -/
def State.judgeOpen (s : State) (z : Fin 4) : State :=
  let r := s.zone z
  if s.straps.zoneFitted z && r.tested then
    if r.drew then s.setZone z { r with openCount := 0 }
    else if Config.openTripCount ≤ r.openCount + 1 then s.tripZone z .openElement
    else s.setZone z { r with openCount := r.openCount + 1 }
  else s

/-- Step 1: the window that ends is judged (R47, R54, R70). -/
def State.judgeWindow (s : State) (rms : Nat) : State := (s.forZones fun t z => t.judgeOpen z).judgeSag rms

/-- Steps 2 to 8 of a boundary, which a window start takes as well (R46, R48). -/
def State.beginWindow (s : State) : State := s.applyHeatPage.settleShed.demandZones.takeShare.loadWindow.rotate

/-- The currents of the slot that ends: a zone in an on-slot that reached 10 % of its rated current is marked (R54). -/
def State.senseSlot (s : State) (peak : Quad Nat) : State :=
  s.mapZones fun z r =>
    if r.out && !underTenth (peak.get z) s.straps.rating s.heat.volts then { r with drew := true } else r

/-- The supply timer restarted at a crossing, and the time of the crossing kept (R43). -/
def State.timeCrossing (s : State) : State :=
  { s with heat := { s.heat with lastCrossing := some s.now, supplyTimer := some (s.now + Config.supplyTime) } }

/-- A crossing while RUNNING (R44). -/
def State.crossRunning (s : State) (rms : Nat) (peak : Quad Nat) : State :=
  let sensed := s.senseSlot peak
  if s.heat.slot + 1 < Config.windowSlots then
    ({ sensed with heat := { sensed.heat with slot := s.heat.slot + 1 } } : State).setOutputs
  else (sensed.judgeWindow rms).beginWindow

/-- The run count after a crossing while STARTING or LOST (R46). -/
def Heat.nextRun (h : Heat) (now : Nat) : Nat :=
  match h.lastCrossing with
  | some last =>
    if h.runCount ≠ 0 ∧ Config.minSpacing ≤ now - last ∧ now - last ≤ Config.maxSpacing then h.runCount + 1 else 1
  | none => 1

/-- A crossing while STARTING or LOST; the tenth well-spaced one starts a fresh window (R46, R69). -/
def State.crossWaiting (s : State) : State :=
  if Config.startRun ≤ s.heat.nextRun s.now then
    ({ s with
        heat := { s.heat with supply := .running, runCount := 0 }
        load := { s.load with idleTimer := none } } : State).beginWindow
  else { s with heat := { s.heat with runCount := s.heat.nextRun s.now } }

/-- A reported zero crossing (R44, R46). -/
def State.takeCrossing (s : State) (rms : Nat) (peak : Quad Nat) : State :=
  (if s.windowRuns then s.crossRunning rms peak else s.crossWaiting).timeCrossing

/-! ## Supply loss and the heating mode -/

/-- A zone record when the heating mode goes OFF (R42): a REGULATING zone becomes IDLE and is cut. -/
def Zone.switchOff (r : Zone) : Zone := if r.state == .regulating then { r with state := .idle, cut := true, out := false } else r

/-- A zone record at supply loss (R45). -/
def Zone.loseSupply (r : Zone) : Zone :=
  { r with out := false, duty := 0, cut := false, state := if r.state == .regulating then .idle else r.state }

/-- The supply becomes LOST; from RUNNING alone the outputs go off and the window is abandoned (R45, R58, R78): DEDUCED (assumption
35), safe. -/
def State.loseSupply (s : State) : State :=
  let off := if s.windowRuns then s.mapZones fun _ r => r.loseSupply else s
  ({ off with heat := { off.heat with supply := .lost, runCount := 0, slot := 0, supplyTimer := none } } : State).applyHeatPage.loadNoSupply

/-- The supply timer expires (R45). -/
def State.supplyExpired (s : State) : State :=
  if s.heat.supply == .lost then { s with heat := { s.heat with runCount := 0, supplyTimer := none } } else s.loseSupply

/-- The heating mode becomes ON or OFF (R42). -/
def State.setHeatingMode (s : State) (on : Bool) : State :=
  if on == s.heat.mode then s
  else
    let set : State := { s with heat := { s.heat with mode := on } }
    if on then set.clearTrips else set.mapZones fun _ r => r.switchOff

/-- A MODE HEATING taken by the HTC (R42). -/
def State.takeModeHeating (s : State) (sender : Fin 16) (on : Bool) : State :=
  if s.straps.fitted = 0 then s.judged .mode (some .heating) sender (some .notFitted)
  else (s.setHeatingMode on).judged .mode (some .heating) sender none

/-- A CLEAR HEATING taken by the HTC through the SSV (R57, R169). -/
def State.takeClearHeating (s : State) (sender : Fin 16) : State :=
  if s.straps.fitted = 0 then s.judged .clear (some .heating) sender (some .notFitted)
  else s.clearTrips.judged .clear (some .heating) sender none

/-- The idle demand timer expires while no window runs: a DEMAND of 0 (R69). -/
def State.idleDemand (s : State) : State :=
  let timed : State := { s with load := { s.load with idleTimer := s.load.idleTimer.map (· + Config.idleDemandTime) } }
  if s.straps.fitted = 0 then timed else timed.offer (.demand ⟨0, s.heating, s.load.factor, s.load.total⟩)

/-- The earth-leakage input changes (R55). -/
def State.leakageChanged (s : State) (active : Bool) : State :=
  let pinned : State := { s with pins := { s.pins with leakage := active } }
  if active then pinned.forZones fun t z => t.judgeZone z else pinned

end Sys2Proof.Machine
end

