-- ==== Sys2Proof/Machine/LevelOps.lean ====
section
/-! DEFINITION. The Levelling Controller: the valve driver (R94 to R97), hold causes and partner (R84, R88, R89), the control law
(R93), freezing, settling and resumption (R106 to R113), the period start (R92), MODE and JOG (R85 to R87, R98, R99). -/

namespace Sys2Proof.Machine

/-! ## The valve driver -/

/-- The dead time t_dt in clock ticks: that of the applied LEVEL page, or 500 ms (R94). -/
def Levelling.deadTime (l : Levelling) : Nat :=
  match l.page with
  | some page => Config.ms page.deadTime
  | none => Config.defaultDeadTime

/-- A coil has gone off: DEAD-TIME with the opposite coil blocked, or NEUTRAL when t_dt is 0 (R94). -/
def coilOff (coil : Direction) (deadTime now : Nat) (waiting : Option Request) : Driver :=
  if deadTime = 0 then .neutral else .dead (.one (opposite coil)) (some (now + deadTime)) waiting

/-- The end time of a request whose coil comes on now (R95). -/
def Request.endAt (r : Request) (now : Nat) : Nat :=
  match r.timing with
  | .until e => e
  | .length n => now + n

/-- The coil of a request comes on. -/
def Request.energised (r : Request) (now : Nat) : Driver := .driving ⟨r.direction, r.origin, r.endAt now⟩

/-- A coil is blocked. -/
def Blocked.blocks (b : Blocked) (coil : Direction) : Bool :=
  match b with
  | .one c => c == coil
  | .both => true

/-- A request timed by an end time that is not later than now (R95). -/
def Request.over (r : Request) (now : Nat) : Bool :=
  match r.timing with
  | .until e => decide (e ≤ now)
  | .length _ => false

/-- An AUTO neutral request (R95). -/
def Driver.neutralRequest (d : Driver) (deadTime now : Nat) : Driver :=
  match d with
  | .neutral => .neutral
  | .driving p => coilOff p.direction deadTime now none
  | .dead blocked timer waiting =>
    .dead blocked timer
      (match waiting with
        | some w => if w.origin == .auto then none else some w
        | none => none)

/-- A pulse request taken by the driver according to its state (R95). With no dead time a reversal comes on at once: DEDUCED
(assumption 13), unsafe. -/
def Driver.request (d : Driver) (r : Request) (deadTime now : Nat) : Driver :=
  if r.over now then d.neutralRequest deadTime now
  else
    match d with
    | .neutral => r.energised now
    | .driving p =>
      if p.direction == r.direction then r.energised now
      else if deadTime = 0 then r.energised now
      else coilOff p.direction deadTime now (some r)
    | .dead blocked timer _ => if blocked.blocks r.direction then .dead blocked timer (some r) else r.energised now

/-- The driver after a cut (R97). -/
def Driver.afterCut (d : Driver) (deadTime now : Nat) : Driver :=
  match d with
  | .neutral => .neutral
  | .driving p => coilOff p.direction deadTime now none
  | .dead blocked timer _ => .dead blocked timer none

/-- What a cut hands back: the running pulse's direction and its remaining on-time in whole ms (R97), rounded down: DEDUCED
(assumption 12), unsafe for the last millisecond. -/
def Driver.handedBack (d : Driver) (now : Nat) : Option (Direction × Nat) :=
  match d with
  | .driving p => some (p.direction, (p.endAt - now) / Config.ms 1)
  | _ => none

/-- The driver when its running pulse reaches its end time (R96). -/
def Driver.pulseEnded (d : Driver) (deadTime now : Nat) : Driver :=
  match d with
  | .driving p => coilOff p.direction deadTime now none
  | other => other

/-- The driver at the dead-time expiry (R96). -/
def Driver.deadTimeOver (d : Driver) (now : Nat) : Driver :=
  match d with
  | .dead _ _ (some w) => if w.over now then .neutral else w.energised now
  | .dead _ _ none => .neutral
  | other => other

/-- The side's record with the driver after a cut; a move that runs or waits is over (R97, R110). -/
def Levelling.cut (l : Levelling) (now : Nat) : Levelling :=
  { l with driver := l.driver.afterCut l.deadTime now, redo := false }

/-- A cut, as the LVC takes one. -/
def State.cutValve (s : State) : State := { s with level := s.level.cut s.now }

/-- When the running pulse ends (R96). -/
def Driver.pulseTimer : Driver → Option Nat
  | .driving p => some p.endAt
  | _ => none

/-- When the dead time expires (R96). -/
def Driver.deadTimer : Driver → Option Nat
  | .dead _ timer _ => timer
  | _ => none

/-- The running pulse reaches its end time; a move issued at a settle end is over with it (R96, R110). -/
def State.endPulse (s : State) : State :=
  { s with level := { s.level with driver := s.level.driver.pulseEnded s.level.deadTime s.now, redo := false } }

/-- The dead-time timer expires (R96). -/
def State.endDeadTime (s : State) : State := { s with level := { s.level with driver := s.level.driver.deadTimeOver s.now } }

/-! ## Sensors, references and causes -/

/-- The sensor of a side mode: the grade sensor belongs to AUTO-GRADE and the slope sensor to AUTO-SLOPE (R84). -/
def Levelling.sensorOf (l : Levelling) (m : SideMode) : Sensor := if m == .autoSlope then l.slope else l.grade

/-- The reference of a side mode. -/
def Levelling.referenceOf (l : Levelling) (m : SideMode) : Int := if m == .autoSlope then l.slopeRef else l.gradeRef

/-- The reference of a side mode replaced. -/
def Levelling.setReference (l : Levelling) (m : SideMode) (v : Int) : Levelling :=
  if m == .autoSlope then { l with slopeRef := v } else { l with gradeRef := v }

/-- The reference of the side's mode captured from its sensor when that is VALID; captured becomes no otherwise (R86). -/
def Levelling.capture (l : Levelling) : Levelling :=
  match (l.sensorOf l.mode).reading with
  | some v => { l.setReference l.mode v with captured := true }
  | none => { l with captured := false }

/-- The partner: the lowest-numbered peer whose FRESH HEIGHT reports the opposite side (R89), with its content. -/
def State.partnerSlot (s : State) : Option (Fin 8 × HeightContent) :=
  (stations.filterMap fun n => ((s.line.peers.get n).height.data).map fun c => (n, c)).find? fun p =>
    p.2.side != s.straps.side

/-- The hold causes judged for a side in AUTO (R88). -/
def Levelling.judge (l : Levelling) (partner : Option SideMode) : Causes where
  sensor := (l.sensorOf l.mode).fault || !l.captured
  conflict := l.mode == .autoSlope && partner == some .autoSlope
  partner :=
    l.mode == .autoSlope &&
      (match partner with
        | none => true
        | some m => !isAuto m)

/-- The condition of a side in AUTO that is neither FROZEN nor SETTLING, from its causes; entering HOLD takes a cut (R88). -/
def Levelling.settleCondition (l : Levelling) (now : Nat) : Levelling :=
  if l.condition == .active || l.condition == .hold then
    if l.causes.any then
      if l.condition == .active then { l.cut now with condition := .hold } else l
    else { l with condition := .active }
  else l

/-- A fault of a sensor acts on the side at once when the side is in AUTO on that sensor (R84). -/
def Levelling.faulted (l : Levelling) (sensor : LevellingSensor) (now : Nat) : Levelling :=
  if (l.mode == .autoGrade && sensor == .grade) || (l.mode == .autoSlope && sensor == .slope) then
    ({ l with causes := { l.causes with sensor := true } } : Levelling).settleCondition now
  else l

/-- The record of a sensor. -/
def Levelling.sensor (l : Levelling) : LevellingSensor → Sensor
  | .grade => l.grade
  | .slope => l.slope

/-- The record of a sensor replaced. -/
def Levelling.setSensor (l : Levelling) (sensor : LevellingSensor) (r : Sensor) : Levelling :=
  match sensor with
  | .grade => { l with grade := r }
  | .slope => { l with slope := r }

/-- A grade or slope reading (R83, R84). -/
def State.takeLevellingReading (s : State) (sensor : LevellingSensor) (reading : Reading) : State :=
  if s.levelling then
    let taken :=
      s.level.setSensor sensor
        ((s.level.sensor sensor).taken (levellingReading reading) (s.now + Config.levellingSilence))
    { s with level := if (levellingReading reading).isSome then taken else taken.faulted sensor s.now }
  else s

/-- A grade or slope sensor has been silent for 200 ms (R83, R84). -/
def State.levellingSilent (s : State) (sensor : LevellingSensor) : State :=
  { s with level := (s.level.setSensor sensor (s.level.sensor sensor).silent).faulted sensor s.now }

/-! ## The control law -/

/-- The pulse in % of the period for an error beyond the deadband (R93). -/
def pulsePercent (error deadband gain minPulse : Nat) : Nat := min 100 (minPulse + gain * (error - deadband) / 10)

/-- The AUTO request of a period: a pulse, or none for a neutral request (R93). -/
def State.controlLaw (s : State) : Option Request :=
  let l := s.level
  if s.sup.station == .run && l.condition == .active && s.travel.state == .paving then
    match l.page, (l.sensorOf l.mode).last with
    | some page, some reading =>
      let e := l.referenceOf l.mode - reading
      let deadband := if l.mode == .autoSlope then page.slopeDeadband else page.gradeDeadband
      let gain := if l.mode == .autoSlope then page.slopeGain else page.gradeGain
      if e.natAbs ≤ deadband then none
      else
        some
          ⟨if 0 < e then .raise else .lower, .auto,
            .until (s.now + Config.ms (pulsePercent e.natAbs deadband gain page.minPulse))⟩
    | _, _ => none
  else none

/-- Step 4 of a period start: the law's request is handed to the driver, but nothing while a redo move runs (R92, R110). -/
def State.runControlLaw (s : State) : State :=
  if isAuto s.level.mode && !s.level.redo then
    { s with
      level :=
        { s.level with
          driver :=
            match s.controlLaw with
            | some r => s.level.driver.request r s.level.deadTime s.now
            | none => s.level.driver.neutralRequest s.level.deadTime s.now } }
  else s

/-- A LEVEL page held and not yet applied is applied (R101). -/
def State.applyLevelPage (s : State) : State :=
  if s.level.pending then
    match s.settings.level with
    | some held => ({ s with level := { s.level with page := some held.page, pending := false } } : State).askStatus
    | none => s
  else s

/-- Step 2 of a period start: a reference not yet captured is captured from a VALID sensor (R92). -/
def State.captureLate (s : State) : State :=
  if isAuto s.level.mode && !s.level.captured then
    match (s.level.sensorOf s.level.mode).reading with
    | some v => { s with level := { s.level.setReference s.level.mode v with captured := true } }
    | none => s
  else s

/-- Step 3 of a period start: the partner is chosen, and in AUTO the causes are judged and the condition set (R92). -/
def State.judgeSide (s : State) : State :=
  let chosen : Levelling := { s.level with partner := s.partnerSlot.map (·.1) }
  if isAuto s.level.mode then
    { s with
      level :=
        ({ chosen with causes := chosen.judge (s.partnerSlot.map (·.2.mode)) } : Levelling).settleCondition s.now }
  else { s with level := chosen }

/-- A period start (R92). -/
def State.startPeriod (s : State) : State :=
  let timed : State :=
    { s with level := { s.level with periodTimer := s.level.periodTimer.map (· + Config.valvePeriod) } }
  timed.applyLevelPage.captureLate.judgeSide.runControlLaw

/-! ## Stops and resumption -/

/-- The side freezes: the driver takes a cut, a record is written, the condition becomes FROZEN (R106). -/
def State.freeze (s : State) : State :=
  let l := s.level
  let sensor := l.sensorOf l.mode
  let record : ResumeRecord :=
    { chainage := s.travel.chainage
      epoch := s.travel.epoch
      reference := if l.captured then some (l.referenceOf l.mode) else none
      reading := sensor.last.map fun v => (v, sensor.fault)
      move :=
        match l.driver.handedBack s.now with
        | some (d, n) => if 1 ≤ n then some (d, n) else none
        | none => none
      nested := 0 }
  { s with level := { l.cut s.now with resume := some record, condition := .frozen } }

/-- A stop during a settle (R112). -/
def State.nestStop (s : State) : State :=
  { s with
    level :=
      { s.level.cut s.now with
        condition := .frozen, settleMark := none
        resume := s.level.resume.map fun r => { r with nested := saturate 255 (r.nested + 1) } } }

/-- Travel has left PAVING (R106, R107, R112). -/
def State.leavePaving (s : State) : State :=
  if isAuto s.level.mode then
    match s.level.condition with
    | .active | .hold => s.freeze
    | .settling => s.nestStop
    | _ => s
  else s

/-- Travel has become PAVING: a FROZEN side settles from here (R108). -/
def State.returnToPaving (s : State) : State :=
  if s.level.condition == .frozen then
    { s with level := { s.level with condition := .settling, settleMark := some s.travel.chainage } }
  else s

/-- The resume policy and the restart choice: those of the applied page, or SAVED and DROP (R109). -/
def Levelling.policy (l : Levelling) : ResumePolicy :=
  match l.page with
  | some page => page.resumePolicy
  | none => .saved
def Levelling.choice (l : Levelling) : RestartChoice :=
  match l.page with
  | some page => page.restartChoice
  | none => .drop

/-- The settle distance in cm (R108). -/
def Levelling.settleDistance (l : Levelling) : Nat :=
  match l.page with
  | some page => page.settleDistance
  | none => Config.defaultSettle

/-- The reference at the settle end: the first row of R109's table that applies. -/
def Levelling.resumeReference (l : Levelling) : Levelling :=
  if l.settleCapture then l.capture
  else
    match l.policy with
    | .saved =>
      match l.resume.bind (·.reference) with
      | some v => { l.setReference l.mode v with captured := true }
      | none => l
    | .current => l.capture

/-- The condition at the settle end, from the causes as they stand (R111). -/
def Levelling.resumeCondition (l : Levelling) (now : Nat) : Levelling :=
  if l.causes.any then { l.cut now with condition := .hold } else { l with condition := .active }

/-- The pending move is issued at the settle end when policy, choice, capture and condition let it (R110). -/
def Levelling.resumeMove (l : Levelling) (capturing : Bool) (now : Nat) : Levelling :=
  match l.resume.bind (·.move) with
  | some (d, n) =>
    if l.policy == .saved && l.choice == .redo && !capturing && l.condition == .active then
      { l with driver := l.driver.request ⟨d, .auto, .length (Config.ms n)⟩ l.deadTime now, redo := true }
    else l
  | none => l

/-- The settle end: reference, condition, pending move, record, in that order (R109 to R111). -/
def Levelling.settleEnd (l : Levelling) (now : Nat) : Levelling :=
  let moved := (l.resumeReference.resumeCondition now).resumeMove l.settleCapture now
  { moved with resume := none, settleCapture := false, settleMark := none }

/-- A change of chainage tests the settle (R108). -/
def State.testSettle (s : State) : State :=
  match s.level.condition, s.level.settleMark with
  | .settling, some mark =>
    if mark + s.level.settleDistance ≤ s.travel.chainage then { s with level := s.level.settleEnd s.now } else s
  | _, _ => s

/-- What the Travel Unit hands the Levelling Controller at the end of one of its events (R34, R106 to R108, R112). -/
def State.travelToLevel (s : State) (before : Travel) : State :=
  if s.levelling then
    if before.state == .paving && s.travel.state != .paving then s.leavePaving
    else if before.state != .paving && s.travel.state == .paving then s.returnToPaving
    else if before.chainage != s.travel.chainage then s.testSettle
    else s
  else s

/-! ## MODE LEVELLING and JOG -/

/-- Why a station that is no levelling station refuses (R85, R99). -/
def State.unfittedTow (s : State) : Option Reason :=
  if s.levelling then none else if s.straps.towStrap then some .strappedOff else some .notFitted

/-- Why a MODE LEVELLING is refused, if it is (R85). -/
def State.sideModeRefusal (s : State) (m : SideMode) : Option Reason :=
  match s.unfittedTow with
  | some r => some r
  | none =>
    if isAuto m && s.parkedOrWaking then some .parked
    else if isAuto m && s.settings.level.isNone then some .noPage
    else none

/-- The side enters AUTO from OFF or MANUAL, or changes AUTO mode in ACTIVE or HOLD (R86). -/
def State.enterAuto (s : State) (m : SideMode) : State :=
  let l := ({ s.level.cut s.now with mode := m, partner := s.partnerSlot.map (·.1) } : Levelling).capture
  let causes := l.judge (s.partnerSlot.map (·.2.mode))
  { s with level := { l with causes := causes, condition := if causes.any then .hold else .active } }

/-- The side changes AUTO mode while FROZEN or SETTLING: the record is discarded and the new reference is captured at the settle
end (R113). -/
def State.swapAuto (s : State) (m : SideMode) : State :=
  { s with
    level :=
      { s.level.cut s.now with
        mode := m, resume := none, captured := false, settleCapture := true
        causes := { s.level.causes with sensor := true } } }

/-- The side leaves AUTO, or changes between OFF and MANUAL (R87, R113). -/
def State.leaveAuto (s : State) (m : SideMode) : State :=
  { s with
    level :=
      { s.level.cut s.now with
        mode := m, condition := .none, causes := ⟨false, false, false⟩, resume := none, settleMark := none
        settleCapture := false } }

/-- An accepted MODE LEVELLING (R85 to R87, R113). -/
def State.setSideMode (s : State) (m : SideMode) : State :=
  if m == s.level.mode then s
  else if isAuto m then
    if s.level.condition == .frozen || s.level.condition == .settling then s.swapAuto m else s.enterAuto m
  else s.leaveAuto m

/-- A MODE LEVELLING taken by the LVC (R85). -/
def State.takeModeLevelling (s : State) (sender : Fin 16) (m : SideMode) : State :=
  match s.sideModeRefusal m with
  | some r => s.judged .mode (some .levelling) sender (some r)
  | none => (s.setSideMode m).judged .mode (some .levelling) sender none

/-- Why a JOG is refused, if it is (R99). -/
def State.jogRefusal (s : State) : Option Reason :=
  match s.unfittedTow with
  | some r => some r
  | none => if s.parkedOrWaking then some .parked else if s.level.mode == .off then some .sideOff else none

/-- The step a JOG shifts a reference by (R98). -/
def jogStep (m : SideMode) (d : Direction) : Int :=
  let size : Int := if m == .autoSlope then 5 else 10
  match d with
  | .raise => size
  | .lower => -size

/-- A reference shifted by a JOG (R98). -/
def jogShift (m : SideMode) (d : Direction) (v : Int) : Int :=
  clampInt (-Config.maxReference) Config.maxReference (v + jogStep m d)

/-- A JOG accepted in AUTO: the reference is shifted, and with it a valid resume record's (R98). -/
def Levelling.jogReference (l : Levelling) (d : Direction) : Levelling :=
  if l.captured then
    { l.setReference l.mode (jogShift l.mode d (l.referenceOf l.mode)) with
      resume := l.resume.map fun r => { r with reference := r.reference.map (jogShift l.mode d) } }
  else l

/-- A JOG accepted (R98, R99). -/
def Levelling.jog (l : Levelling) (d : Direction) (length now : Nat) : Levelling :=
  if isAuto l.mode then l.jogReference d
  else
    { l with
      driver := l.driver.request ⟨d, .jog, .length (Config.ms (clampNat 20 1000 length))⟩ l.deadTime now }

/-- A JOG taken by the LVC (R98, R99). -/
def State.takeJog (s : State) (sender : Fin 16) (d : Direction) (length : Nat) : State :=
  match s.jogRefusal with
  | some r => s.judged .jog none sender (some r)
  | none => ({ s with level := s.level.jog d length s.now } : State).judged .jog none sender none

/-! ## HEIGHT -/

/-- The content of a HEIGHT (R102). -/
def State.heightContent (s : State) : HeightContent where
  side := s.straps.side
  mode := s.level.mode
  condition := s.level.condition.code
  holdCause := s.level.causeShown
  partner := stationField s.level.partner
  driver := s.level.driver.code
  gradeFault := s.level.grade.fault
  slopeFault := s.level.slope.fault
  grade := s.level.grade.last
  slope := s.level.slope.last
  reference := if isAuto s.level.mode && s.level.captured then some (s.level.referenceOf s.level.mode) else none

end Sys2Proof.Machine
end

