-- ==== Sys2Proof/Machine/TravelOps.lean ====
section
/-! DEFINITION. The Travel Unit: counting the encoder (R23 to R25), calibration and speed (R26, R27), travel states (R28, R29),
following an encoder station (R30 to R32), rebase (R33), and what each event hands to the other blocks (R34). -/

namespace Sys2Proof.Machine

/-! ## Travel states -/

/-- The stop timer started at T_stop (R28, R29). -/
def Travel.stopStarted (t : Travel) (now : Nat) : Option Nat :=
  t.page.map fun page => now + Config.ms (1000 * page.stopTime)

/-- PAVING entered with the mark at the present chainage (R28). -/
def Travel.enterPaving (t : Travel) (now : Nat) : Travel :=
  { t with state := .paving, mark := t.chainage, stopTimer := t.stopStarted now }

/-- Any other state entered with the mark at the present chainage; the stop timer stops (R28). -/
def Travel.enter (t : Travel) (state : TravelState) : Travel :=
  { t with state := state, mark := t.chainage, stopTimer := none }

/-- The travel state tested at a change of chainage: `t` has the new chainage, `old` is the one before (R28, R29). -/
def Travel.testState (t : Travel) (old now : Nat) : Travel :=
  let c := t.chainage
  match t.state with
  | .paving =>
    if c + Config.travelMargin ≤ max t.mark c then t.enter .reversing
    else { t with mark := max t.mark c, stopTimer := if old < c then t.stopStarted now else t.stopTimer }
  | .stopped =>
    if t.mark + Config.travelMargin ≤ c then t.enterPaving now
    else if c + Config.travelMargin ≤ t.mark then t.enter .reversing
    else t
  | .reversing =>
    if min t.mark c + Config.travelMargin ≤ c then t.enterPaving now else { t with mark := min t.mark c }
  | .lost => t

/-- The chainage changes to `c`. While not calibrated the state stays STOPPED with the mark at the chainage (R26). -/
def Travel.moveTo (t : Travel) (c now : Nat) : Travel :=
  if c = t.chainage then t
  else
    let moved := { t with chainage := c }
    if t.page.isSome then moved.testState t.chainage now else moved.enter .stopped

/-! ## The encoder -/

/-- A forward pulse on the remainder and the chainage of a calibrated encoder station (R24). -/
def forwardPulse (remainder chainage p : Nat) : Nat × Nat :=
  if remainder + 100 < p then (remainder + 100, chainage)
  else if Config.maxChainage ≤ chainage then (p - 1, chainage)
  else (remainder + 100 - p, chainage + 1)

/-- A backward pulse: the clamp at zero included (R25). -/
def backwardPulse (remainder chainage p : Nat) : Nat × Nat :=
  if 100 ≤ remainder then (remainder - 100, chainage)
  else if chainage = 0 then (0, 0)
  else (remainder + p - 100, chainage - 1)

/-- A completed pulse on a calibrated station: counted in the current bin, then applied (R23 to R25). -/
def Travel.pulse (t : Travel) (forward : Bool) (now : Nat) : Travel :=
  match t.page with
  | none => t
  | some page =>
    let next := (if forward then forwardPulse else backwardPulse) t.remainder t.chainage page.pulsesPerMetre
    let counted :=
      { t with remainder := next.1, currentBin := t.currentBin + (if forward then 1 else -1) }
    counted.moveTo next.2 now

/-- One step of the quadrature position; the fourth net step in one direction completes a pulse (R23). -/
def Travel.step (t : Travel) (forward : Bool) (now : Nat) : Travel :=
  let steps := if forward then t.steps + 1 else t.steps - 1
  if steps = 4 then ({ t with steps := 0 } : Travel).pulse true now
  else if steps = -4 then ({ t with steps := 0 } : Travel).pulse false now
  else { t with steps := steps }

/-- A change from one level pair to another, the pairs being numbered in the forward order: the next pair is a step forward, the
pair before a step back, and the pair across is discarded (R23). -/
def Travel.pairChange (t : Travel) (before after : Fin 4) (now : Nat) : Travel :=
  if after = before + 1 then t.step true now else if after + 1 = before then t.step false now else t

/-! ## Speed -/

/-- The speed from a net pulse count (R27). -/
def speedOf (net : Int) (p : Nat) : Int :=
  clampInt (-Config.maxSpeed) Config.maxSpeed
    (Int.tdiv (clampInt (-Config.maxNetPulses) Config.maxNetPulses net * 1200) (p : Int))

/-- The speed timer's expiry: the current bin closes and the speed is set from the five latest (R27). While the station is not
calibrated the bins are held at 0 and the speed is 0. -/
def Travel.closeBin (t : Travel) : Travel :=
  let timed := { t with speedTimer := t.speedTimer.map (· + Config.speedPeriod) }
  match t.page with
  | none => { timed with bins := [0, 0, 0, 0, 0], currentBin := 0, speed := 0 }
  | some page =>
    let bins := t.currentBin :: t.bins.take 4
    { timed with bins := bins, currentBin := 0, speed := speedOf bins.sum page.pulsesPerMetre }

/-! ## Handing over -/

/-- A travel record set, and handed to the Levelling Controller and the Row Builder at the end of the event (R34). -/
def State.setTravel (s : State) (t : Travel) (rebased : Bool) : State :=
  (({ s with travel := t } : State).travelToLevel s.travel).travelToRows s.travel rebased

/-- The encoder channels change (R23). The pins follow at every station; a follower does not read them. -/
def State.encoderChanged (s : State) (pair : Fin 4) : State :=
  let pinned : State := { s with pins := { s.pins with encoder := pair } }
  if s.straps.encoder then pinned.setTravel (s.travel.pairChange s.pins.encoder pair s.now) false else pinned

/-- The stop timer expires in PAVING (R29). -/
def State.stopExpired (s : State) : State := s.setTravel (s.travel.enter .stopped) false

/-! ## Following -/

/-- The content of a peer's TRAVEL slot when it is a candidate: FRESH, and its sender counts an encoder (R30). -/
def State.candidate (s : State) (n : Fin 8) : Option TravelContent :=
  match (s.line.peers.get n).travel.data with
  | some c => if c.counts then some c else none
  | none => none

/-- The lowest-numbered candidate with its content (R30). -/
def State.sourceChoice (s : State) : Option (Fin 8 × TravelContent) :=
  (stations.filterMap fun n => (s.candidate n).map fun c => (n, c)).head?

/-- The travel record after a follower in LOST takes content of its own epoch (R32): `t` has the new chainage, `mark` is the LOST
mark. -/
def Travel.leaveLost (t : Travel) (mark now : Nat) : Travel :=
  if mark + Config.travelMargin ≤ t.chainage then t.enterPaving now
  else if t.chainage + Config.travelMargin ≤ mark then t.enter .reversing
  else { t with state := .stopped, mark := mark, stopTimer := none }

/-- The travel record after a follower takes content of its own epoch (R31, R32). Uncalibrated, its speed stays 0 (R26): DEDUCED
(assumption 24), unsafe. A source's quantities are taken literally: DEDUCED (assumption 20), unsafe. -/
def Travel.follow (t : Travel) (c : TravelContent) (now : Nat) : Travel :=
  let sped := { t with speed := if t.page.isSome then c.speed else 0 }
  if t.state == .lost then ({ sped with chainage := c.chainage } : Travel).leaveLost t.mark now
  else sped.moveTo c.chainage now

/-- The travel record after a follower takes content of another epoch, as a rebase (R31). -/
def Travel.followRebase (t : Travel) (c : TravelContent) : Travel :=
  ({ t with
      chainage := c.chainage, epoch := c.epoch, speed := if t.page.isSome then c.speed else 0 } : Travel).enter .stopped

/-- The content of the source is taken into a record whose source is already set (R31). -/
def State.takeContent (s : State) (t : Travel) (c : TravelContent) : State :=
  if c.epoch == s.travel.epoch then s.setTravel (t.follow c s.now) false else s.setTravel (t.followRebase c) true

/-- The travel record with its source changed to a station (R30). -/
def Travel.changeSource (t : Travel) (n : Fin 8) : Travel :=
  { t with
    source := .station n
    previous := some n
    sourceChanges :=
      match t.previous with
      | some m => if m = n then t.sourceChanges else saturate 255 (t.sourceChanges + 1)
      | none => t.sourceChanges }

/-- The travel record with its source become NONE: chainage and epoch held, speed 0, and LOST when calibrated (R30, R32). -/
def Travel.loseSource (t : Travel) : Travel :=
  let held := { t with source := .none, speed := 0 }
  if t.page.isSome then held.enter .lost else held

/-- A follower chooses its travel source again, at a TRAVEL arrival (`arrived`) or at a TRAVEL slot going stale (R30). -/
def State.reviewSource (s : State) (arrived : Option (Fin 8)) : State :=
  if s.straps.encoder then s
  else
    match s.sourceChoice with
    | some (n, c) =>
      if s.travel.source = .station n then
        if arrived = some n then s.takeContent s.travel c else s
      else s.takeContent (s.travel.changeSource n) c
    | none => if s.travel.source = .none then s else s.setTravel s.travel.loseSource false

/-! ## Rebase and the TRAVEL page -/

/-- A station without a source: a follower whose travel source is NONE, when calibrated, is LOST (R32). -/
def Travel.restState (t : Travel) : TravelState := if t.page.isSome && t.source == .none then .lost else .stopped

/-- A REBASE (R33). -/
def State.takeRebase (s : State) (value : Word32) : State :=
  s.setTravel
    (({ s.travel with
        chainage := min value.toNat Config.maxRebase, remainder := 0, epoch := s.travel.epoch + 1 } : Travel).enter
      s.travel.restState)
    true

/-- The remainder under a new number of pulses per metre (R26), at the first page as at a later one: DEDUCED (assumption 28), unsafe. -/
def remainderUnder (remainder p : Nat) : Nat := if remainder < p then remainder else p - 1

/-- The TRAVEL page applied (R26). -/
def Travel.applyPage (t : Travel) (page : TravelPage) : Travel :=
  let paged := { t with page := some page, remainder := remainderUnder t.remainder page.pulsesPerMetre }
  if t.page.isSome then paged
  else ({ paged with bins := [0, 0, 0, 0, 0], currentBin := 0 } : Travel).enter paged.restState

/-- The TRAVEL page taken by the Travel Unit (R26). -/
def State.applyTravelPage (s : State) (page : TravelPage) : State := s.setTravel (s.travel.applyPage page) false

/-! ## TRAVEL -/

/-- The content of a TRAVEL (R35). -/
def State.travelContent (s : State) : TravelContent :=
  ⟨s.travel.chainage, s.travel.epoch, s.travel.speed, s.travel.state, s.calibrated⟩

end Sys2Proof.Machine
end

