-- ==== Sys2Proof/Machine/StationOps.lean ====
section
/-! DEFINITION. The Settings Store (R163, R165, R166), the Station Supervisor's park and wake (R173 to R177), Station Identity's
width reading (R3), and the two resets (R178, R179). -/

namespace Sys2Proof.Machine

/-! ## Settings -/

/-- The slot of the page a SETTINGS names now holds it, clamped, with its age at 0 (R163, R165). -/
def State.holdPage (s : State) (fields : SettingsFields) : State :=
  match fields with
  | .heat f => { s with settings := { s.settings with heat := some ⟨.ofFields f, s.now, false⟩ } }
  | .level f => { s with settings := { s.settings with level := some ⟨.ofFields f, s.now, false⟩ } }
  | .feed f => { s with settings := { s.settings with feed := some ⟨.ofFields f, s.now, false⟩ } }
  | .record f => { s with settings := { s.settings with record := some ⟨.ofFields f, s.now, false⟩ } }
  | .travel f => { s with settings := { s.settings with travel := some ⟨.ofFields f, s.now, false⟩ } }

/-- SETTINGS-CLAMPED is raised when a field was clamped or replaced (R165). -/
def State.noteClamp (s : State) (fields : SettingsFields) : State := if SettingsFields.changed fields then s.raise .settingsClamped else s

/-- The consumer of a HEAT page is told: it applies the page at once while no window runs (R58). -/
def State.tellHeat (s : State) : State :=
  let told : State := { s with heat := { s.heat with pending := true } }
  if s.windowRuns then told else told.applyHeatPage

/-- The consumer of a RECORD page is told: it applies the page at once with no row open, and R138 is tested (R138, R148). -/
def State.tellRecord (s : State) : State :=
  let told : State := { s with rows := { s.rows with pending := true } }
  if s.rows.openRow.isSome then told else told.applyRecordPage.tryOpenRow

/-- The page's consumer is told of the arrival (R163). -/
def State.tellConsumer (s : State) (fields : SettingsFields) : State :=
  match fields with
  | .heat _ => s.tellHeat
  | .level _ => if s.levelling then { s with level := { s.level with pending := true } } else s
  | .feed _ => if s.owner then { s with feed := { s.feed with pending := true } } else s
  | .record _ => s.tellRecord
  | .travel f => s.applyTravelPage (.ofFields f)

/-- A SETTINGS taken by the SST (R163). -/
def State.takeSettings (s : State) (fields : SettingsFields) : State :=
  ((s.holdPage fields).noteClamp fields).tellConsumer fields

/-- A held page whose age has passed 10 s is stale (R166). -/
def agedPage {α : Type} (slot : Option (Held α)) (now : Nat) : Option (Held α) :=
  slot.map fun h => if passed h.since Config.pageAge now then { h with stale := true } else h

/-- A held page's age passes 10 s (R166). -/
def State.pageAged (s : State) (page : PageKind) : State :=
  match page with
  | .heat => { s with settings := { s.settings with heat := agedPage s.settings.heat s.now } }
  | .level => { s with settings := { s.settings with level := agedPage s.settings.level s.now } }
  | .feed => { s with settings := { s.settings with feed := agedPage s.settings.feed s.now } }
  | .record => { s with settings := { s.settings with record := agedPage s.settings.record s.now } }
  | .travel => { s with settings := { s.settings with travel := agedPage s.settings.travel s.now } }

/-! ## Station Identity -/

/-- A width sensor reading, taken on an EXTENSION section when it is valid (R3). -/
def State.takeWidth (s : State) (reading : Reading) : State :=
  if s.straps.kind == .extension then
    match widthReading reading with
    | some w =>
      { s with identity := { s.identity with width := some (clampInt 0 (s.straps.maxWidth : Int) w).toNat } }
    | none => s
  else s

/-! ## PARK -/

/-- Why a PARK is refused, if it is: the first test of R174 that applies. -/
def State.parkRefusal (s : State) : Option Reason :=
  if isAuto s.level.mode then some .levellingAuto
  else if s.feed.conveyor.mode != .off || s.feed.auger.mode != .off then some .feedRunning
  else none

/-- The station record at park entry (R175). -/
def Supervisor.parked (v : Supervisor) (option : ParkOption) (collecting : Bool) : Supervisor :=
  { v with
    station := if collecting then .parkInquiry else .park
    option := some option
    wakingTimer := none
    wakeOwed := false }

/-- Park entry (R175): the heating state and the drive outputs follow from the station record. -/
def State.enterPark (s : State) (option : ParkOption) : State :=
  ({ s with sup := s.sup.parked option s.ring.collection.inFlight } : State).cutValve.parkRows

/-- An accepted PARK (R174). -/
def State.acceptPark (s : State) (option : ParkOption) : State :=
  if s.parked then { s with sup := { s.sup with option := some option, wakeOwed := false } } else s.enterPark option

/-- A PARK taken by the SSV (R174). -/
def State.takePark (s : State) (sender : Fin 16) (option : ParkOption) : State :=
  match s.parkRefusal with
  | some r => (s.raise .parkRefused).judged .park none sender (some r)
  | none => (s.acceptPark option).judged .park none sender none

/-! ## WAKE -/

/-- A wake taken: WAKING, with the waking timer started and the scanner on (R177). -/
def State.startWaking (s : State) : State :=
  ({ s with
      sup :=
        { s.sup with
          station := .waking, option := none, wakeOwed := false
          wakingTimer := some (s.now + Config.wakingTime) } } : State).wakeRows

/-- A WAKE taken by the SSV (R177). -/
def State.takeWake (s : State) : State :=
  match s.sup.station with
  | .park => s.startWaking
  | .parkInquiry => { s with sup := { s.sup with wakeOwed := true } }
  | .waking => s
  | .run => s

/-- The waking timer expires: RUN, and R138 is tested (R177). -/
def State.wakingOver (s : State) : State :=
  ({ s with sup := { s.sup with station := .run, wakingTimer := none } } : State).tryOpenRow

/-- The Record Ring's notice of its collection state, when that has changed from `before` (R176). -/
def State.noticeCollection (s : State) (before : Bool) : State :=
  if s.ring.collection.inFlight == before then s
  else
    match s.sup.station, before with
    | .park, false => { s with sup := { s.sup with station := .parkInquiry } }
    | .parkInquiry, true =>
      let parked : State := { s with sup := { s.sup with station := .park } }
      if s.sup.wakeOwed then parked.startWaking else parked
    | _, _ => s

/-- A COLLECT taken by the Record Ring, and its notice to the SSV (R157, R176). -/
def State.collectAndNotice (s : State) (sender : Fin 16) (first : Word32) (count : Nat) : State :=
  (s.takeCollect sender first count).noticeCollection s.ring.collection.inFlight

/-- A RELEASE taken by the Record Ring (R160). -/
def State.takeRelease (s : State) (upto : Word32) : State := { s with ring := s.ring.releaseTo upto }

/-! ## Warm restart -/

/-- The assertion of a warm restart: every block takes its warm restart values, and the outputs are off (R178). Whether the last
bulletin received was echoed stands: a RESTART bulletin is echoed before it is taken (R9). -/
def State.assertWarm (s : State) (timer : Option Nat) (pinHeld : Bool) (cause : ResetCause) : State :=
  { s with
    phase := .warm timer pinHeld cause
    identity := ⟨s.straps, none⟩
    line := { Line.atReset with echoed := s.line.echoed }
    travel := .atReset s.straps s.travel.chainage s.travel.epoch s.travel.remainder
    heat := .atReset
    load := .atReset
    level := .atReset (.atWarmRestart s.level.driver)
    feed := .atReset
    rows := .atReset s.straps s.travel.chainage s.travel.epoch
    ring := { s.ring with collection := .atReset }
    settings := .atReset
    sup := .atReset s.sup.resetCause }

/-- What a release of either reset ends with: a zone whose trip condition holds trips at once, and the first STATUS is offered
(R55, R178); that a power-on release offers it too is DEDUCED (assumption 15), unsafe. -/
def State.firstReport (s : State) : State := (s.forZones fun t z => t.judgeZone z).offerStatus

/-- The release of a warm restart: the timers start, the station state is RUN (R178). -/
def State.releaseWarm (s : State) (cause : ResetCause) : State :=
  ({ s with
      phase := .running
      travel := s.travel.started s.straps s.now
      heat := s.heat.started s.now
      load := s.load.started s.now
      level := s.level.started s.straps s.now
      feed := s.feed.started s.straps s.now
      rows := s.rows.started s.straps s.now
      sup := { s.sup.started s.now with resetCause := cause } } : State).firstReport

/-- A RESTART taken by the SSV (R178). -/
def State.takeRestart (s : State) : State := s.assertWarm (some (s.now + Config.restartTime)) false .restartCommand

/-- The 10 ms of a RESTART command are over: the restart is released unless the pin prolongs it (R178). -/
def State.restartTimeOver (s : State) : State :=
  match s.phase with
  | .warm (some t) pinHeld cause =>
    if t ≤ s.now then
      if pinHeld then { s with phase := .warm none true cause } else s.releaseWarm cause
    else s
  | _ => s

/-- The restart pin goes active: a warm restart is asserted, or the one in progress is prolonged, and its latest assertion is the
pin's (R178): DEDUCED (assumption 16), unsafe for the cause. It has no effect while power-on reset is asserted (R179), and its level
is then not held: DEDUCED (assumption 17), unsafe. -/
def State.restartPinOn (s : State) : State :=
  match s.phase with
  | .running => s.assertWarm none true .restartPin
  | .warm timer _ _ => { s with phase := .warm timer true .restartPin }
  | .powerOn _ => s

/-- The restart pin goes inactive: the restart is released, unless the 10 ms of a RESTART command still run (R178). -/
def State.restartPinOff (s : State) : State :=
  match s.phase with
  | .warm none true cause => s.releaseWarm cause
  | .warm (some t) true cause => { s with phase := .warm (some t) false cause }
  | _ => s

/-! ## Power-on reset -/

/-- Power-on reset is asserted: the outputs are off and a bulletin in flight is cut off (R8, R179). The blocks take their
power-on values at the release: DESIGN CHOICE (assumption 18), safe. -/
def State.assertPowerOn (s : State) : State :=
  { s with phase := .powerOn s.now, line := { s.line with sending := none, echoed := false } }

/-- Power-on reset is released, 50 ms or more after the supply was last below its level (R179). -/
def State.releasePowerOn (s : State) (straps : BitVec 18) : State :=
  match s.phase with
  | .powerOn since =>
    if since + Config.powerOnTime ≤ s.now then
      ({ State.poweredOn straps s.pins s.now with pending := s.pending } : State).firstReport
    else s
  | _ => s

end Sys2Proof.Machine
end

