-- ==== Sys2Proof/Machine/LineOps.lean ====
section
/-! DEFINITION. The Line Interface: beginning and ending a send (R6, R7, R13 to R15), line errors and QUIET (R17, R18), receiving
(R9 to R11), the peer table (R19 to R21), handing commands to their owners (R10, R167, R169), and the cadences (R16). -/

namespace Sys2Proof.Machine

/-! ## Sending -/

/-- The queue replaced, with the levels the part is sending. -/
def State.setSending (s : State) (q : TxQueue) (levels : Option (List LineLevel)) : State :=
  { s with line := { s.line with queue := q, sending := levels } }

/-- The LIF begins a bulletin: in SPEAKING, with none in flight, the chosen slot becomes IN-FLIGHT and its content is sent (R6,
R13). In QUIET it begins nothing (R14). -/
def State.beginBulletin (s : State) : State :=
  match s.line.state, s.line.queue.flying, s.line.queue.choice with
  | .speaking, none, some k =>
    match s.line.queue.get k with
    | .waiting c p => s.setSending (s.line.queue.set k (.inFlight c p none)) (some (frame s.straps.station c))
    | _ => s
  | _, _, _ => s

/-- A slot back to WAITING at its old position, its follow-on content replacing what it held (R15). -/
def TxSlot.returned : TxSlot → TxSlot
  | .inFlight c p followOn => .waiting (followOn.getD c) p
  | other => other

/-- A slot after the success of its send: EMPTY, or WAITING with the follow-on content at the newest position (R15). -/
def TxSlot.settled (slot : TxSlot) (position : Nat) : TxSlot :=
  match slot with
  | .inFlight _ _ (some f) => .waiting f position
  | .inFlight _ _ none => .empty
  | other => other

/-- The content that a slot in flight sends. -/
def TxSlot.flyingContent : TxSlot → Option Content
  | .inFlight c _ _ => some c
  | _ => none

/-- Contention is lost when the class and sender read back are not those sent: the slot is as if it had never been IN-FLIGHT (R6,
R15). -/
def State.loseContention (s : State) (cls : Fin 8) (sender : Fin 16) : State :=
  match s.line.queue.flying with
  | some k =>
    if cls.val = k.cls ∧ sender.val = s.straps.station.val then s
    else s.setSending (s.line.queue.set k (s.line.queue.get k).returned) none
  | none => s

/-- An event alarm that a sent STATUS carried is removed, unless it was raised again since that content was formed (R170). -/
def afterCarried (raised : Option Nat) (code : Nat) (listed : List Nat) (formed : Nat) : Option Nat :=
  match raised with
  | some n => if listed.contains code && decide (n ≤ formed) then none else some n
  | none => none

/-- The event alarms after the report of a sent STATUS (R170). -/
def EventAlarms.sent (e : EventAlarms) (listed : List Nat) (formed : Nat) : EventAlarms where
  ringOverwrite := afterCarried e.ringOverwrite Alarm.ringOverwrite.code listed formed
  settingsClamped := afterCarried e.settingsClamped Alarm.settingsClamped.code listed formed
  lineQuiet := afterCarried e.lineQuiet Alarm.lineQuiet.code listed formed
  parkRefused := afterCarried e.parkRefused Alarm.parkRefused.code listed formed

/-- The report of a successful send to the block that offered it (R15, R76, R158, R159, R170, R176). -/
def State.reportSent (s : State) (c : Content) : State :=
  match c with
  | .travel _ => s
  | .height _ => s
  | .demand d => s.demandSent d
  | .level _ => s
  | .status c formed => { s with sup := { s.sup with events := s.sup.events.sent c.alarms formed } }
  | .shedAck _ => s.shedAckSent
  | .record _ => s.recordSent
  | .collectEnd c => (s.collectEndSent c.outcome).noticeCollection s.ring.collection.inFlight

/-- The line error count after a success (R17). -/
def Line.cleared (l : Line) : Line := if l.state == .speaking then { l with errors := 0 } else l

/-- A successful send of a kind (R15, R17). -/
def State.sendSucceeded (s : State) (k : StationKind) : State :=
  let slot := s.line.queue.get k
  let q := s.line.queue.set k (slot.settled s.line.queue.nextPosition)
  let settled := ({ s with line := s.line.cleared } : State).setSending { q with nextPosition := q.nextPosition + 1 } none
  match slot.flyingContent with
  | some c => settled.reportSent c
  | none => settled

/-- A failed send counted; at 32 the LIF goes QUIET and raises LINE-QUIET (R17, R18). -/
def State.countFailure (s : State) : State :=
  if s.line.state == .speaking then
    if Config.quietErrors ≤ s.line.errors + 1 then
      ({ s with
          line :=
            { s.line with
              errors := Config.quietErrors, state := .quiet
              quietTimer := some (s.now + Config.quietTime) } } : State).raise .lineQuiet
    else { s with line := { s.line with errors := s.line.errors + 1 } }
  else s

/-- A failed send of a kind (R15, R17). -/
def State.sendFailed (s : State) (k : StationKind) : State :=
  (s.setSending (s.line.queue.set k (s.line.queue.get k).returned) none).countFailure

/-- The send in flight ends (R7, R15). -/
def State.completeSend (s : State) (result : SendResult) : State :=
  match s.line.queue.flying, result with
  | none, _ => s
  | some k, .success => s.sendSucceeded k
  | some k, .mismatch => s.sendFailed k
  | some k, .missingEcho => s.sendFailed k

/-- The quiet timer expires (R18). -/
def State.quietOver (s : State) : State :=
  { s with line := { s.line with state := .speaking, errors := 0, quietTimer := none } }

/-- The duplicate timer expires (R11). -/
def State.duplicateOver (s : State) : State := { s with line := { s.line with duplicateTimer := none } }

/-! ## Commands -/

/-- A command goes to the block that owns it (R10, R167, R169), in the step of the bulletin that brought it: DEDUCED (assumption 7),
safe. -/
def State.takeCommand (s : State) (sender : Fin 16) (c : LineCommand) : State :=
  match c with
  | .modeHeating on => s.takeModeHeating sender on
  | .modeLevelling m => s.takeModeLevelling sender m
  | .modeDrive d m command => s.takeModeDrive sender d m command
  | .jog d length => s.takeJog sender d length
  | .park option => s.takePark sender option
  | .wake => s.takeWake
  | .clearHeating => s.takeClearHeating sender
  | .rebase value => s.takeRebase value
  | .restart => s.takeRestart
  | .shedAll => s.takeShedAll
  | .restore => s.takeRestore
  | .settings fields => s.takeSettings fields
  | .collect first count => s.collectAndNotice sender first count
  | .release upto => s.takeRelease upto

/-! ## The peer table -/

/-- A peer's entry with a content entered, FRESH with its age at 0 (R20). -/
def PeerEntry.enter (e : PeerEntry) (c : PeerContent) (now : Nat) : PeerEntry :=
  match c with
  | .travel c => { e with travel := .fresh c now }
  | .height c => { e with height := .fresh c now }
  | .demand c => { e with demand := .fresh c now }
  | .level c => { e with level := .fresh c now }
  | .status c => { e with status := .fresh c now }

/-- One peer's entry replaced. -/
def State.setPeer (s : State) (n : Fin 8) (e : PeerEntry) : State :=
  { s with line := { s.line with peers := s.line.peers.set n e } }

/-- The content is a TRAVEL. -/
def PeerContent.isTravel : PeerContent → Bool
  | .travel _ => true
  | _ => false

/-- A peer's content arrives: it is entered (R20), and a TRAVEL makes the Travel Unit choose its source again (R30). -/
def State.enterPeer (s : State) (n : Fin 8) (c : PeerContent) : State :=
  let entered := s.setPeer n ((s.line.peers.get n).enter c s.now)
  if c.isTravel then entered.reviewSource (some n) else entered

/-- A slot whose age has exceeded its limit is STALE and keeps its content (R20). -/
def PeerSlot.aged {α : Type} (slot : PeerSlot α) (limit now : Nat) : PeerSlot α :=
  match slot with
  | .fresh c since => if passed since limit now then .stale c else .fresh c since
  | other => other

/-- The age of a FRESH slot exceeds its limit. -/
def PeerSlot.isDue {α : Type} (slot : PeerSlot α) (limit now : Nat) : Bool :=
  match slot with
  | .fresh _ since => passed since limit now
  | _ => false

/-- A peer's slot of a kind is due to go stale (R19, R20). -/
def PeerEntry.isDue (e : PeerEntry) (kind : PeerKind) (now : Nat) : Bool :=
  match kind with
  | .travel => e.travel.isDue Config.travelAge now
  | .height => e.height.isDue Config.heightAge now
  | .demand => e.demand.isDue Config.demandAge now
  | .level => e.level.isDue Config.levelAge now
  | .status => e.status.isDue Config.statusAge now

/-- A peer's entry with its slot of a kind aged (R19, R20). -/
def PeerEntry.aged (e : PeerEntry) (kind : PeerKind) (now : Nat) : PeerEntry :=
  match kind with
  | .travel => { e with travel := e.travel.aged Config.travelAge now }
  | .height => { e with height := e.height.aged Config.heightAge now }
  | .demand => { e with demand := e.demand.aged Config.demandAge now }
  | .level => { e with level := e.level.aged Config.levelAge now }
  | .status => { e with status := e.status.aged Config.statusAge now }

/-- A peer's slot goes stale, and a TRAVEL slot makes the Travel Unit choose its source again (R20, R30). -/
def State.peerAged (s : State) (n : Fin 8) (kind : PeerKind) : State :=
  if (s.line.peers.get n).isDue kind s.now then
    let aged := s.setPeer n ((s.line.peers.get n).aged kind s.now)
    if kind == .travel then aged.reviewSource none else aged
  else s

/-! ## Receiving -/

/-- A bulletin with this station's own number: the duplicate timer restarts (R11). -/
def State.noteDuplicate (s : State) : State :=
  { s with line := { s.line with duplicateTimer := some (s.now + Config.duplicateTime) } }

/-- A bulletin of another station, 0 to 7: its content is entered, or it is discarded (R10, R182, R183). -/
def State.arriveFromStation (s : State) (n : Fin 8) (b : Bulletin) : State :=
  if b.fits then
    match decodePeer b.kind b.payload with
    | some c => s.enterPeer n c
    | none => s
  else s

/-- A bulletin of a console or the collector, 8 to 15: a command for this station is handed to its owner (R10, R182, R183). -/
def State.arriveFromConsole (s : State) (b : Bulletin) : State :=
  if b.fits ∧ (b.target = s.straps.station.val ∨ b.target = 15) then
    match decodeCommand b.kind b.payload with
    | some c => s.takeCommand b.sender c
    | none => s
  else s

/-- A good bulletin taken by sender and kind (R10). -/
def State.arrive (s : State) (b : Bulletin) : State :=
  if h : b.sender.val < 8 then
    if b.sender.val = s.straps.station.val then s.noteDuplicate else s.arriveFromStation ⟨b.sender.val, h⟩ b
  else s.arriveFromConsole b

/-- A bulletin on the line has ended: a receive error, or a good bulletin, echoed and taken (R9). -/
def State.receive (s : State) (bytes : List Byte) : State :=
  match readBulletin bytes with
  | none =>
    { s with
      line := { s.line with receiveErrors := saturate Config.maxReceiveErrors (s.line.receiveErrors + 1), echoed := false } }
  | some b => ({ s with line := { s.line with echoed := true } } : State).arrive b

/-! ## Cadences (R16) -/

/-- A cadence timer that has expired runs its next period. -/
def nextPeriod (timer : Option Nat) (period : Nat) : Option Nat := timer.map (· + period)

/-- The TRAVEL cadence: an encoder station offers TRAVEL (R35). -/
def State.offerTravel (s : State) : State :=
  let timed : State := { s with travel := { s.travel with cadence := nextPeriod s.travel.cadence Config.travelCadence } }
  if s.straps.encoder then timed.offer (.travel timed.travelContent) else timed

/-- The HEIGHT cadence: a levelling station whose side mode is not OFF offers HEIGHT (R102). -/
def State.offerHeight (s : State) : State :=
  let timed : State := { s with level := { s.level with cadence := nextPeriod s.level.cadence Config.heightCadence } }
  if s.levelling && s.level.mode != .off then timed.offer (.height timed.heightContent) else timed

/-- The LEVEL cadence: a station with a level sensor or a feed owner station offers LEVEL (R129). -/
def State.offerLevel (s : State) : State :=
  let timed : State := { s with feed := { s.feed with cadence := nextPeriod s.feed.cadence Config.levelCadence } }
  if s.straps.levelSensor || s.owner then timed.offer (.level timed.levelContent) else timed

/-- The STATUS cadence: every station offers STATUS (R171). -/
def State.statusDue (s : State) : State :=
  ({ s with sup := { s.sup with cadence := nextPeriod s.sup.cadence Config.statusCadence } } : State).offerStatus

end Sys2Proof.Machine
end

