-- ==== Sys2Proof/Machine/Clock.lean ====
section
/-! DEFINITION. The part's own clock: which of its timers have come due, as the commands that stand for their expiries, and what a
tick of the clock does. -/

namespace Sys2Proof.Machine

/-- A command when its condition holds, and none otherwise. -/
def postIf (condition : Bool) (c : Instr) : List Instr := if condition then [c] else []

/-- The ages of the peer table's slots that have exceeded their limits (R20), by station number and then by kind: DESIGN CHOICE
(assumption 3), unsafe for a run in which the order shows. -/
def State.duePeers (s : State) : List Instr :=
  stations.flatMap fun n =>
    [PeerKind.travel, .height, .demand, .level, .status].flatMap fun k =>
      postIf ((s.line.peers.get n).isDue k s.now) (.peerSlotStale n k)

/-- A held page's age has passed 10 s and it is not stale yet (R166). -/
def pageIsDue {α : Type} (slot : Option (Held α)) (now : Nat) : Bool :=
  match slot with
  | some h => !h.stale && passed h.since Config.pageAge now
  | none => false

/-- The held pages whose age has passed 10 s (R166), in the order of the page codes: DESIGN CHOICE (assumption 3), unsafe for a run in
which the order shows. -/
def State.duePages (s : State) : List Instr :=
  postIf (pageIsDue s.settings.heat s.now) (.pageAgeExpiry .heat) ++
    postIf (pageIsDue s.settings.level s.now) (.pageAgeExpiry .level) ++
    postIf (pageIsDue s.settings.feed s.now) (.pageAgeExpiry .feed) ++
    postIf (pageIsDue s.settings.record s.now) (.pageAgeExpiry .record) ++
    postIf (pageIsDue s.settings.travel s.now) (.pageAgeExpiry .travel)

/-- The timers of one drive that have expired (R125 to R127): hold, capture, stall, an order that no rule gives. DESIGN CHOICE
(assumption 3), unsafe for a run in which the order shows. -/
def State.dueDrive (s : State) (d : Drive) : List Instr :=
  postIf (due (s.feed.drive d).holdTimer s.now) (.holdTimerExpiry d) ++
    postIf (due (s.feed.drive d).captureTimer s.now) (.speedCaptureTimeout d) ++
    postIf (due (s.feed.drive d).stallTimer s.now) (.stallTimerExpiry d)

/-- The expiries of a running part that have come due, in one fixed order. DESIGN CHOICE (assumption 3), unsafe for a run in which the
order shows: no rule says which of two timers that expire at one moment is taken first, of different blocks or of one. R131 gives the
outcome of either order of a control period and a hold timer, and R104 that of a period start and a pulse end or a dead-time expiry; here
the control period comes before the drives' hold, capture and stall timers, and the period start before the driver's two. The plate
sensor timer's expiry is given from outside, with what the sensors read (assumption 4). -/
def State.dueRunning (s : State) : List Instr :=
  postIf (due s.line.quietTimer s.now) .quietTimerExpiry ++
    postIf (due s.line.duplicateTimer s.now) .duplicateTimerExpiry ++
    s.duePeers ++
    postIf (due s.travel.cadence s.now) .travelCadence ++
    postIf (due s.level.cadence s.now) .heightCadence ++
    postIf (due s.feed.cadence s.now) .levelCadence ++
    postIf (due s.sup.cadence s.now) .statusCadence ++
    postIf (due s.travel.speedTimer s.now) .speedTimerExpiry ++
    postIf (due s.travel.stopTimer s.now) .stopTimerExpiry ++
    postIf (due s.heat.supplyTimer s.now) .supplyTimerExpiry ++
    postIf (due s.load.idleTimer s.now) .idleDemandTimerExpiry ++
    postIf (due s.level.grade.timer s.now) (.gradeSlopeSilenceExpiry .grade) ++
    postIf (due s.level.slope.timer s.now) (.gradeSlopeSilenceExpiry .slope) ++
    postIf (due s.level.periodTimer s.now) .periodStart ++
    postIf (due s.level.driver.pulseTimer s.now) .pulseEnd ++
    postIf (due s.level.driver.deadTimer s.now) .deadTimeExpiry ++
    postIf (due s.feed.level.timer s.now) (.feedSensorSilenceExpiry .level) ++
    postIf (due s.feed.tunnel.timer s.now) (.feedSensorSilenceExpiry .tunnel) ++
    postIf (due s.feed.periodTimer s.now) .controlPeriod ++
    s.dueDrive .conveyor ++ s.dueDrive .auger ++
    postIf (due s.rows.silence.timer s.now) .scannerSilenceExpiry ++
    s.duePages ++
    postIf (due s.sup.wakingTimer s.now) .wakingTimerExpiry

/-- The expiries that have come due: while a warm restart is asserted only the 10 ms of a RESTART command run, and while power-on
reset is asserted nothing does (R178, R179). -/
def State.dueExpiries (s : State) : List Instr :=
  match s.phase with
  | .running => s.dueRunning
  | .warm timer _ _ => postIf (due timer s.now) .restartTimerExpiry
  | .powerOn _ => []

/-- One tick of the clock while no command waits: 0.1 ms passes, and the expiries then due are the commands that wait (assumption
1). -/
def State.tick (s : State) : State :=
  let later : State := { s with now := s.now + 1 }
  { later with pending := later.dueExpiries }

end Sys2Proof.Machine
end

