-- ==== Sys2Proof/Machine/FeedCommands.lean ====
section
/-! DEFINITION. The meanings of the Feed Controller's commands and events (Chapter 7). -/

namespace Sys2Proof.Machine

/-- LEVEL_CADENCE (R16, R129). -/
def execLevelCadence (s : State) : Host.Outcome State Fault Refusal :=
  .next (s.takeExpiry s.feed.cadence State.offerLevel)

/-- MODE_CONVEYOR_AUGER (R119, R120). -/
def execModeConveyorAuger (sender : Fin 16) (drive : Drive) (mode : DriveMode) (command : Nat) (s : State) :
    Host.Outcome State Fault Refusal :=
  .next (s.take fun t => t.takeModeDrive sender drive mode command)

/-- FEED_LEVEL_READING (R118). -/
def execFeedLevelReading (sensor : FeedSensor) (reading : Reading) (s : State) : Host.Outcome State Fault Refusal :=
  .next (s.take fun t => t.takeFeedReading sensor reading)

/-- FEED_SENSOR_SILENCE_EXPIRY (R118). -/
def execFeedSensorSilenceExpiry (sensor : FeedSensor) (s : State) : Host.Outcome State Fault Refusal :=
  .next (s.takeExpiry (s.feed.sensor sensor).timer fun t => t.feedSilent sensor)

/-- CONTROL_PERIOD (R121). -/
def execControlPeriod (s : State) : Host.Outcome State Fault Refusal :=
  .next (s.takeExpiry s.feed.periodTimer State.controlDrives)

/-- HOLD_TIMER_EXPIRY (R127). -/
def execHoldTimerExpiry (drive : Drive) (s : State) : Host.Outcome State Fault Refusal :=
  .next (s.takeExpiry (s.feed.drive drive).holdTimer fun t => t.setDrive drive (t.feed.drive drive).holdOver)

/-- DRIVE_SPEED_PULSE (R125, R126). -/
def execDriveSpeedPulse (drive : Drive) (s : State) : Host.Outcome State Fault Refusal :=
  .next (s.take fun t => t.takeSpeedPulse drive)

/-- SPEED_CAPTURE_TIMEOUT (R125). -/
def execSpeedCaptureTimeout (drive : Drive) (s : State) : Host.Outcome State Fault Refusal :=
  .next (s.takeExpiry (s.feed.drive drive).captureTimer fun t => t.setDrive drive (t.feed.drive drive).captureOver)

/-- STALL_TIMER_EXPIRY (R126). -/
def execStallTimerExpiry (drive : Drive) (s : State) : Host.Outcome State Fault Refusal :=
  .next (s.takeExpiry (s.feed.drive drive).stallTimer fun t => t.setDrive drive (t.feed.drive drive).stall)

end Sys2Proof.Machine
end

