-- ==== Sys2Proof/Machine/HeatCommands.lean ====
section
/-! DEFINITION. The meanings of the commands and events of the Heater Controller and the Load Share Unit (Chapters 3 and 4). -/

namespace Sys2Proof.Machine

/-- ZERO_CROSSING (R43, R44, R46). -/
def execZeroCrossing (rms : Nat) (peak : Quad Nat) (s : State) : Host.Outcome State Fault Refusal :=
  .next (s.take fun t => t.takeCrossing rms peak)

/-- SUPPLY_TIMER_EXPIRY (R45). -/
def execSupplyTimerExpiry (s : State) : Host.Outcome State Fault Refusal :=
  .next (s.takeExpiry s.heat.supplyTimer State.supplyExpired)

/-- IDLE_DEMAND_TIMER_EXPIRY (R69). -/
def execIdleDemandTimerExpiry (s : State) : Host.Outcome State Fault Refusal :=
  .next (s.takeExpiry s.load.idleTimer State.idleDemand)

/-- HEAT_SENSOR_TIMER_EXPIRY (R38, R55). -/
def execHeatSensorTimerExpiry (samples : Quad Reading) (s : State) : Host.Outcome State Fault Refusal :=
  .next (s.takeExpiry s.heat.sensorTimer fun t => t.samplePlates samples)

/-- ZONE_OVERCURRENT (R53). -/
def execZoneOvercurrent (zone : Fin 4) (current : Nat) (s : State) : Host.Outcome State Fault Refusal :=
  .next (s.take fun t => t.watchCurrent zone current)

/-- LEAKAGE_INPUT_ACTIVE (R55). While a reset is asserted only the pin follows. -/
def execLeakageInputActive (active : Bool) (s : State) : Host.Outcome State Fault Refusal :=
  .next (if s.phase == .running then s.take fun t => t.leakageChanged active else { s with pins := { s.pins with leakage := active } })

/-- MODE_HEATING (R42). -/
def execModeHeating (sender : Fin 16) (on : Bool) (s : State) : Host.Outcome State Fault Refusal :=
  .next (s.take fun t => t.takeModeHeating sender on)

/-- CLEAR_HEATING (R57, R169). -/
def execClearHeating (sender : Fin 16) (s : State) : Host.Outcome State Fault Refusal :=
  .next (s.take fun t => t.takeClearHeating sender)

/-- SHED_ALL (R74). -/
def execShedAll (s : State) : Host.Outcome State Fault Refusal :=
  .next (s.take State.takeShedAll)

/-- RESTORE (R77). -/
def execRestore (s : State) : Host.Outcome State Fault Refusal :=
  .next (s.take State.takeRestore)

end Sys2Proof.Machine
end

