-- ==== Sys2Proof/Machine/LevelCommands.lean ====
section
/-! DEFINITION. The meanings of the Levelling Controller's commands and events (Chapters 5 and 6). -/

namespace Sys2Proof.Machine

/-- HEIGHT_CADENCE (R16, R102). -/
def execHeightCadence (s : State) : Host.Outcome State Fault Refusal :=
  .next (s.takeExpiry s.level.cadence State.offerHeight)

/-- GRADE_SLOPE_READING (R83, R84). -/
def execGradeSlopeReading (sensor : LevellingSensor) (reading : Reading) (s : State) : Host.Outcome State Fault Refusal :=
  .next (s.take fun t => t.takeLevellingReading sensor reading)

/-- GRADE_SLOPE_SILENCE_EXPIRY (R83, R84). -/
def execGradeSlopeSilenceExpiry (sensor : LevellingSensor) (s : State) : Host.Outcome State Fault Refusal :=
  .next (s.takeExpiry (s.level.sensor sensor).timer fun t => t.levellingSilent sensor)

/-- PERIOD_START (R92). -/
def execPeriodStart (s : State) : Host.Outcome State Fault Refusal :=
  .next (s.takeExpiry s.level.periodTimer State.startPeriod)

/-- PULSE_END (R96). -/
def execPulseEnd (s : State) : Host.Outcome State Fault Refusal :=
  .next (s.takeExpiry s.level.driver.pulseTimer State.endPulse)

/-- DEAD_TIME_EXPIRY (R96). -/
def execDeadTimeExpiry (s : State) : Host.Outcome State Fault Refusal :=
  .next (s.takeExpiry s.level.driver.deadTimer State.endDeadTime)

/-- MODE_LEVELLING (R85 to R87, R113). -/
def execModeLevelling (sender : Fin 16) (mode : SideMode) (s : State) : Host.Outcome State Fault Refusal :=
  .next (s.take fun t => t.takeModeLevelling sender mode)

/-- JOG (R98, R99). -/
def execJog (sender : Fin 16) (direction : Direction) (length : Nat) (s : State) : Host.Outcome State Fault Refusal :=
  .next (s.take fun t => t.takeJog sender direction length)

end Sys2Proof.Machine
end

