-- ==== Sys2Proof/Machine/LineCommands.lean ====
section
/-! DEFINITION. The meanings of the Line Interface's events: sends, receptions and the expiries of its timers (Chapter 1), and the cadence of STATUS. -/

namespace Sys2Proof.Machine

/-- BULLETIN_BEGIN: the line is free, and the LIF begins the bulletin it chooses (R6, R13, R14). -/
def execBulletinBegin (s : State) : Host.Outcome State Fault Refusal :=
  .next (s.take State.beginBulletin)

/-- CONTENTION_LOST (R6, R15). -/
def execContentionLost (cls : Fin 8) (sender : Fin 16) (s : State) : Host.Outcome State Fault Refusal :=
  .next (s.take fun t => t.loseContention cls sender)

/-- SEND_COMPLETE (R7, R15, R17). -/
def execSendComplete (result : SendResult) (s : State) : Host.Outcome State Fault Refusal :=
  .next (s.take fun t => t.completeSend result)

/-- QUIET_TIMER_EXPIRY (R18). -/
def execQuietTimerExpiry (s : State) : Host.Outcome State Fault Refusal :=
  .next (s.takeExpiry s.line.quietTimer State.quietOver)

/-- BULLETIN_RECEIVED: received, judged, echoed when good and taken (R9, R10). -/
def execBulletinReceived (bytes : List Byte) (s : State) : Host.Outcome State Fault Refusal :=
  .next (s.take fun t => t.receive bytes)

/-- DUPLICATE_TIMER_EXPIRY (R11). -/
def execDuplicateTimerExpiry (s : State) : Host.Outcome State Fault Refusal :=
  .next (s.takeExpiry s.line.duplicateTimer State.duplicateOver)

/-- PEER_SLOT_STALE (R20). -/
def execPeerSlotStale (station : Fin 8) (kind : PeerKind) (s : State) : Host.Outcome State Fault Refusal :=
  .next (s.take fun t => t.peerAged station kind)

end Sys2Proof.Machine
end

