-- ==== Sys2Proof/Machine/RowCommands.lean ====
section
/-! DEFINITION. The meanings of the Row Builder's and the Record Ring's commands and events (Chapters 8 and 9), and of the width reading (R3). -/

namespace Sys2Proof.Machine

/-- WIDTH_READING (R3). -/
def execWidthReading (reading : Reading) (s : State) : Host.Outcome State Fault Refusal :=
  .next (s.take fun t => t.takeWidth reading)

/-- SWEEP (R133, R135, R137). -/
def execSweep (good : Bool) (spots : List Int) (s : State) : Host.Outcome State Fault Refusal :=
  .next (s.take fun t => t.takeSweep good spots)

/-- SCANNER_SILENCE_EXPIRY (R133, R137). -/
def execScannerSilenceExpiry (s : State) : Host.Outcome State Fault Refusal :=
  .next (s.takeExpiry s.rows.silence.timer State.scannerSilent)

/-- COLLECT (R157). -/
def execCollect (sender : Fin 16) (first : Word32) (count : Nat) (s : State) : Host.Outcome State Fault Refusal :=
  .next (s.take fun t => t.collectAndNotice sender first count)

/-- RELEASE (R160). -/
def execRelease (upto : Word32) (s : State) : Host.Outcome State Fault Refusal :=
  .next (s.take fun t => t.takeRelease upto)

end Sys2Proof.Machine
end

