-- ==== Sys2Proof/Machine/StationCommands.lean ====
section
/-! DEFINITION. The meanings of the commands and events of the Settings Store and the Station Supervisor (Chapters 10 and 11). -/

namespace Sys2Proof.Machine

/-- STATUS_CADENCE (R16, R171). -/
def execStatusCadence (s : State) : Host.Outcome State Fault Refusal :=
  .next (s.takeExpiry s.sup.cadence State.statusDue)

/-- SETTINGS (R163). -/
def execSettings (fields : SettingsFields) (s : State) : Host.Outcome State Fault Refusal :=
  .next (s.take fun t => t.takeSettings fields)

/-- PAGE_AGE_EXPIRY (R166). -/
def execPageAgeExpiry (page : PageKind) (s : State) : Host.Outcome State Fault Refusal :=
  .next (s.take fun t => t.pageAged page)

/-- PARK (R174). -/
def execPark (sender : Fin 16) (option : ParkOption) (s : State) : Host.Outcome State Fault Refusal :=
  .next (s.take fun t => t.takePark sender option)

/-- WAKE (R177). -/
def execWake (s : State) : Host.Outcome State Fault Refusal :=
  .next (s.take State.takeWake)

/-- WAKING_TIMER_EXPIRY (R177). -/
def execWakingTimerExpiry (s : State) : Host.Outcome State Fault Refusal :=
  .next (s.takeExpiry s.sup.wakingTimer State.wakingOver)

/-- RESTART (R178). -/
def execRestart (s : State) : Host.Outcome State Fault Refusal :=
  .next (s.take State.takeRestart)

/-- RESTART_TIMER_EXPIRY (R178). -/
def execRestartTimerExpiry (s : State) : Host.Outcome State Fault Refusal :=
  .next s.restartTimeOver

/-- RESTART_PIN_ACTIVE (R178). -/
def execRestartPinActive (s : State) : Host.Outcome State Fault Refusal :=
  .next s.restartPinOn

/-- RESTART_PIN_INACTIVE (R178). -/
def execRestartPinInactive (s : State) : Host.Outcome State Fault Refusal :=
  .next s.restartPinOff

/-- POWER_ON_RESET_ASSERT (R179). -/
def execPowerOnResetAssert (s : State) : Host.Outcome State Fault Refusal :=
  .next s.assertPowerOn

/-- POWER_ON_RESET_RELEASE (R179). -/
def execPowerOnResetRelease (straps : BitVec 18) (s : State) : Host.Outcome State Fault Refusal :=
  .next (s.releasePowerOn straps)

end Sys2Proof.Machine
end

