-- ==== Sys2Proof/Machine/TravelCommands.lean ====
section
/-! DEFINITION. The meanings of the Travel Unit's commands and events (Chapter 2). -/

namespace Sys2Proof.Machine

/-- TRAVEL_CADENCE (R16, R35). -/
def execTravelCadence (s : State) : Host.Outcome State Fault Refusal :=
  .next (s.takeExpiry s.travel.cadence State.offerTravel)

/-- ENCODER_CHANGE (R23 to R25). While a reset is asserted only the pins follow. -/
def execEncoderChange (pair : Fin 4) (s : State) : Host.Outcome State Fault Refusal :=
  .next (if s.phase == .running then s.take fun t => t.encoderChanged pair else { s with pins := { s.pins with encoder := pair } })

/-- SPEED_TIMER_EXPIRY (R27). -/
def execSpeedTimerExpiry (s : State) : Host.Outcome State Fault Refusal :=
  .next (s.takeExpiry s.travel.speedTimer fun t => { t with travel := t.travel.closeBin })

/-- STOP_TIMER_EXPIRY (R29). -/
def execStopTimerExpiry (s : State) : Host.Outcome State Fault Refusal :=
  .next (s.takeExpiry s.travel.stopTimer State.stopExpired)

/-- REBASE (R33). -/
def execRebase (value : Word32) (s : State) : Host.Outcome State Fault Refusal :=
  .next (s.take fun t => t.takeRebase value)

end Sys2Proof.Machine
end

