-- ==== Sys2Proof/Machine/Dispatch.lean ====
section
/-! DEFINITION. The effect of each command on everything but the queue: one arm for each constructor of Instr. -/

namespace Sys2Proof.Machine

def exec (i : Instr) (s : State) : Host.Outcome State Fault Refusal :=
  match i with
  | .bulletinBegin => Sys2Proof.Machine.execBulletinBegin s
  | .contentionLost cls sender => Sys2Proof.Machine.execContentionLost cls sender s
  | .sendComplete result => Sys2Proof.Machine.execSendComplete result s
  | .quietTimerExpiry => Sys2Proof.Machine.execQuietTimerExpiry s
  | .bulletinReceived bytes => Sys2Proof.Machine.execBulletinReceived bytes s
  | .duplicateTimerExpiry => Sys2Proof.Machine.execDuplicateTimerExpiry s
  | .peerSlotStale station kind => Sys2Proof.Machine.execPeerSlotStale station kind s
  | .travelCadence => Sys2Proof.Machine.execTravelCadence s
  | .heightCadence => Sys2Proof.Machine.execHeightCadence s
  | .levelCadence => Sys2Proof.Machine.execLevelCadence s
  | .statusCadence => Sys2Proof.Machine.execStatusCadence s
  | .encoderChange pair => Sys2Proof.Machine.execEncoderChange pair s
  | .speedTimerExpiry => Sys2Proof.Machine.execSpeedTimerExpiry s
  | .stopTimerExpiry => Sys2Proof.Machine.execStopTimerExpiry s
  | .rebase value => Sys2Proof.Machine.execRebase value s
  | .zeroCrossing rms peak => Sys2Proof.Machine.execZeroCrossing rms peak s
  | .supplyTimerExpiry => Sys2Proof.Machine.execSupplyTimerExpiry s
  | .idleDemandTimerExpiry => Sys2Proof.Machine.execIdleDemandTimerExpiry s
  | .heatSensorTimerExpiry samples => Sys2Proof.Machine.execHeatSensorTimerExpiry samples s
  | .zoneOvercurrent zone current => Sys2Proof.Machine.execZoneOvercurrent zone current s
  | .leakageInputActive active => Sys2Proof.Machine.execLeakageInputActive active s
  | .modeHeating sender on => Sys2Proof.Machine.execModeHeating sender on s
  | .clearHeating sender => Sys2Proof.Machine.execClearHeating sender s
  | .shedAll => Sys2Proof.Machine.execShedAll s
  | .restore => Sys2Proof.Machine.execRestore s
  | .gradeSlopeReading sensor reading => Sys2Proof.Machine.execGradeSlopeReading sensor reading s
  | .gradeSlopeSilenceExpiry sensor => Sys2Proof.Machine.execGradeSlopeSilenceExpiry sensor s
  | .periodStart => Sys2Proof.Machine.execPeriodStart s
  | .pulseEnd => Sys2Proof.Machine.execPulseEnd s
  | .deadTimeExpiry => Sys2Proof.Machine.execDeadTimeExpiry s
  | .modeLevelling sender mode => Sys2Proof.Machine.execModeLevelling sender mode s
  | .jog sender direction length => Sys2Proof.Machine.execJog sender direction length s
  | .modeConveyorAuger sender drive mode command => Sys2Proof.Machine.execModeConveyorAuger sender drive mode command s
  | .feedLevelReading sensor reading => Sys2Proof.Machine.execFeedLevelReading sensor reading s
  | .feedSensorSilenceExpiry sensor => Sys2Proof.Machine.execFeedSensorSilenceExpiry sensor s
  | .controlPeriod => Sys2Proof.Machine.execControlPeriod s
  | .holdTimerExpiry drive => Sys2Proof.Machine.execHoldTimerExpiry drive s
  | .driveSpeedPulse drive => Sys2Proof.Machine.execDriveSpeedPulse drive s
  | .speedCaptureTimeout drive => Sys2Proof.Machine.execSpeedCaptureTimeout drive s
  | .stallTimerExpiry drive => Sys2Proof.Machine.execStallTimerExpiry drive s
  | .widthReading reading => Sys2Proof.Machine.execWidthReading reading s
  | .sweep good spots => Sys2Proof.Machine.execSweep good spots s
  | .scannerSilenceExpiry => Sys2Proof.Machine.execScannerSilenceExpiry s
  | .collect sender first count => Sys2Proof.Machine.execCollect sender first count s
  | .release upto => Sys2Proof.Machine.execRelease upto s
  | .settings fields => Sys2Proof.Machine.execSettings fields s
  | .pageAgeExpiry page => Sys2Proof.Machine.execPageAgeExpiry page s
  | .park sender option => Sys2Proof.Machine.execPark sender option s
  | .wake => Sys2Proof.Machine.execWake s
  | .wakingTimerExpiry => Sys2Proof.Machine.execWakingTimerExpiry s
  | .restart => Sys2Proof.Machine.execRestart s
  | .restartTimerExpiry => Sys2Proof.Machine.execRestartTimerExpiry s
  | .restartPinActive => Sys2Proof.Machine.execRestartPinActive s
  | .restartPinInactive => Sys2Proof.Machine.execRestartPinInactive s
  | .powerOnResetAssert => Sys2Proof.Machine.execPowerOnResetAssert s
  | .powerOnResetRelease straps => Sys2Proof.Machine.execPowerOnResetRelease straps s

end Sys2Proof.Machine
end

