-- ==== Sys2Proof/Safety.lean ====
section
/-! DEFINITION. The terms in which claims about the part are made: what stays the same but for a STATUS offer, what a safe state is
block by block, and what a block's records look like under the manual's laws. -/

namespace Sys2Proof.Machine

/-! ## Frames -/

/-- `t` is `s` but for what a STATUS offer touches: the STATUS slot, the next queue position, and the supervisor's own two
marks of it (R12, R171). -/
def State.SameButStatus (s t : State) : Prop :=
  t =
    { s with
      line :=
        { s.line with
          queue := { s.line.queue with status := t.line.queue.status, nextPosition := t.line.queue.nextPosition } }
      sup := { s.sup with formed := t.sup.formed, offerDue := t.sup.offerDue } }

/-- The part runs and no STATUS offer is owed, as between any two events of a running part. -/
def State.Ready (s : State) : Prop := s.phase = .running ∧ s.sup.offerDue = false

/-- The content a slot offers last: its follow-on content, or the content it holds (R12). -/
def TxSlot.newest : TxSlot → Option Content
  | .empty => none
  | .waiting c _ => some c
  | .inFlight c _ followOn => some (followOn.getD c)

/-- The queue's slot of a kind is the only one in flight. -/
def TxQueue.OnlyFlying (q : TxQueue) (k : StationKind) : Prop := ∀ other, other ≠ k → (q.get other).isInFlight = false

/-! ## The commands a bulletin carries -/

/-- The command of the table that a command bulletin of this sender stands for. -/
def LineCommand.row (c : LineCommand) (sender : Fin 16) : Instr :=
  match c with
  | .modeHeating on => .modeHeating sender on
  | .modeLevelling m => .modeLevelling sender m
  | .modeDrive d m command => .modeConveyorAuger sender d m command
  | .jog d length => .jog sender d length
  | .park option => .park sender option
  | .wake => .wake
  | .clearHeating => .clearHeating sender
  | .rebase value => .rebase value
  | .restart => .restart
  | .shedAll => .shedAll
  | .restore => .restore
  | .settings fields => .settings fields
  | .collect first count => .collect sender first count
  | .release upto => .release upto

/-! ## Contents within the ranges their layouts carry (Section 12.3) -/

/-- A reading that a 16-bit field carries beside its sentinel. -/
def Fits16 (v : Option Int) : Prop := ∀ x, v = some x → -32767 ≤ x ∧ x ≤ 32767

/-- A level that a byte carries beside its sentinel. -/
def FitsLevel (v : Option Nat) : Prop := ∀ x, v = some x → x < 255

def TravelContent.Fits (c : TravelContent) : Prop := c.chainage < 4294967296 ∧ -32768 ≤ c.speed ∧ c.speed ≤ 32767

def DemandContent.Fits (c : DemandContent) : Prop := c.demand < 65536 ∧ c.factor < 65536 ∧ c.total < 65536

def HeightContent.Fits (c : HeightContent) : Prop :=
  c.condition < 8 ∧ c.holdCause < 4 ∧ c.partner < 16 ∧ c.driver < 4 ∧ Fits16 c.grade ∧ Fits16 c.slope ∧ Fits16 c.reference

def DriveReport.Fits (d : DriveReport) : Prop :=
  d.mode < 4 ∧ d.condition < 8 ∧ d.command < 65536 ∧ ∀ p, d.period = some p → 0 < p ∧ p < 65536

def OwnerPart.Fits (o : OwnerPart) : Prop := o.conveyor.Fits ∧ o.auger.Fits ∧ o.source < 16 ∧ FitsLevel o.tunnel

def LevelContent.Fits (c : LevelContent) : Prop := FitsLevel c.level ∧ ∀ o, c.owner = some o → o.Fits

/-- A content of a kind that the peer table enters, TRAVEL, HEIGHT, DEMAND and LEVEL, with each field in the range its layout
carries. -/
def PeerContent.Fits : PeerContent → Prop
  | .travel c => c.Fits
  | .height c => c.Fits
  | .demand c => c.Fits
  | .level c => c.Fits
  | .status _ => False

/-- The content a station offers to say it; a STATUS is left to its own statements. -/
def PeerContent.offered : PeerContent → Option Content
  | .travel c => some (.travel c)
  | .height c => some (.height c)
  | .demand c => some (.demand c)
  | .level c => some (.level c)
  | .status _ => none

/-! ## What a change of chainage makes of the travel state -/

/-- The state, the mark and the stop timer that the table of R28 and R29 give a calibrated station in `u` whose chainage changes to `c`:
`stop` is when a stop timer started now ends, and `rises` says that the chainage rises. In LOST the table changes nothing. -/
def Travel.ruled (u : Travel) (c stop : Nat) (rises : Bool) : TravelState × Nat × Option Nat :=
  match u.state with
  | .paving =>
    if c + 5 ≤ u.mark then (.reversing, c, none)
    else (.paving, max u.mark c, if rises then some stop else u.stopTimer)
  | .stopped =>
    if u.mark + 5 ≤ c then (.paving, c, some stop)
    else if c + 5 ≤ u.mark then (.reversing, c, none)
    else (.stopped, u.mark, u.stopTimer)
  | .reversing => if u.mark + 5 ≤ c then (.paving, c, some stop) else (.reversing, min u.mark c, u.stopTimer)
  | .lost => (.lost, u.mark, u.stopTimer)

/-- The time an open row has been stopped, with a stretch that still runs, in clock ticks (R136; assumption 36). -/
def OpenRow.stoppedFor (r : OpenRow) (now : Nat) : Nat :=
  match r.stoppedSince with
  | some since => r.stoppedTicks + (now - since)
  | none => r.stoppedTicks

/-! ## What a window that begins holds -/

/-- A zone after step 1 of a boundary, `drew` saying that its current reached 10 % of rated in an on-slot of the window (R54). -/
def Zone.openJudged (r : Zone) (drew : Bool) : Zone :=
  if r.state = .regulating ∧ r.cut = false ∧ 5 ≤ r.duty then
    if drew then { r with openCount := 0 }
    else if r.openCount + 1 < 3 then { r with openCount := r.openCount + 1 }
    else { r with state := .tripped .openElement, openCount := 0 }
  else r

/-- The demand of zone number `n`, 0 when there is no such zone. -/
def State.demandAt (s : State) (n : Nat) : Nat := if h : n < 4 then (s.heat.zones.get ⟨n, h⟩).demand else 0

/-- The zone at place `i` of the allocation order from a start zone among `fitted` zones (R50). -/
def zoneInTurn (rotates : Bool) (start : Fin 4) (fitted i : Nat) : Nat := if rotates then (start + i) % fitted else i

/-- The applied page's zone order is ROTATING. -/
def State.rotates (s : State) : Bool :=
  match s.heat.page with
  | some page => page.zoneOrder == .rotating
  | none => false

/-- Steps 2 and 3 of a window's beginning in `s`, which ends in `t`: the HEAT page that waits is applied (R58), and the shed order
and status are settled, with the SHED-ACK at once at a station without zones (R75). -/
def State.SettlesPageAndShed (s t : State) : Prop :=
  t.heat.page =
      (if s.heat.pending then
        (match s.settings.heat with
          | some held => some held.page
          | none => s.heat.page)
      else s.heat.page) ∧
    t.load.standing = s.load.standing ∧
    (t.load.status, t.load.ack) =
      (match s.load.standing, s.load.status with
        | true, .shedding => (.shed, if s.straps.fitted = 0 then .waiting else .awaitingDemand)
        | false, .shedding | false, .shed => (.none, .notDue)
        | _, _ => (s.load.status, s.load.ack)) ∧
    (s.load.standing = true → s.load.status = .shedding → s.straps.fitted = 0 →
      t.line.queue.shedAck.newest = some (.shedAck ⟨t.heating, true⟩))

/-- Steps 4 and 5 for fitted zones, which step 1 left as `judged` gives them: each that is not TRIPPED is REGULATING in ACTIVE and
PARK-WARM and IDLE otherwise, uncut, with its demand by its error under the page now applied (R39, R49). -/
def State.RegulatesAndDemands (s t : State) (judged : Fin 4 → Zone) : Prop :=
  ∀ z, s.straps.zoneFitted z = true →
    (t.heat.zones.get z).state =
        (if (judged z).state.isTripped then (judged z).state else if t.heating.draws then .regulating else .idle) ∧
      (t.heat.zones.get z).cut = false ∧ (t.heat.zones.get z).openCount = (judged z).openCount ∧
      (t.heat.zones.get z).temperature = (judged z).temperature ∧
      (t.heat.zones.get z).sensorFault = (judged z).sensorFault ∧
      ((t.heat.zones.get z).state ≠ .regulating → (t.heat.zones.get z).demand = 0) ∧
      ∀ (page : HeatPage) (temperature error : Int), (t.heat.zones.get z).state = .regulating →
        t.heat.page = some page → (judged z).temperature = some temperature →
        error = (if t.heating = .parkWarm then page.parkSetpoint else page.setpoint : Nat) - temperature →
        (t.heat.zones.get z).demand =
          (if (page.band : Int) ≤ error then s.straps.rating
            else if 0 < error then s.straps.rating * error.toNat / page.band else 0)

/-- Step 6: the own demand, the demand table of the FRESH DEMAND slots, the total and the share, and the DEMAND that tells them
(R63 to R65, R68). -/
def State.TakesShare (s t : State) : Prop :=
  t.load.ownDemand = (if t.heating.draws then (zones.map fun z => (t.heat.zones.get z).demand).sum else 0) ∧
    t.load.table =
      (stations.filterMap fun n =>
        match (s.line.peers.get n).demand with
        | .fresh c _ => some (n, min 1200 c.demand)
        | _ => none) ∧
    t.load.total = t.load.ownDemand + (t.load.table.map (·.2)).sum ∧
    (∀ page, t.heat.page = some page →
      t.load.share =
        (if t.heating.draws then
          (if t.load.total ≤ page.capacity then t.load.ownDemand
            else page.capacity * t.load.ownDemand / t.load.total) * t.load.factor / 256
        else 0)) ∧
    (t.heat.page = none → t.load.share = 0) ∧
    (s.straps.fitted ≠ 0 →
      t.line.queue.demand.newest =
        some (.demand ⟨t.load.ownDemand, t.heating, t.load.factor, t.load.total⟩)) ∧
    (s.straps.fitted = 0 → t.line.queue.demand = s.line.queue.demand)

/-- Steps 7 and 8: each zone in its turn is given its demand or what the zones before it have left of the share, its duty is the whole
part of 50 times that over R, its output stands for slot 0, and in ROTATING the start zone moves on (R50 to R52). -/
def State.LoadsAndRotates (s t : State) : Prop :=
  (∀ (i : Nat) (z : Fin 4), i < s.straps.fitted → s.straps.zoneFitted z = true →
    z.val = zoneInTurn t.rotates s.heat.rotationStart s.straps.fitted i →
    (t.heat.zones.get z).duty =
      50 *
          min (t.heat.zones.get z).demand
            (t.load.share -
              ((List.range i).map fun j =>
                t.demandAt (zoneInTurn t.rotates s.heat.rotationStart s.straps.fitted j)).sum) /
        s.straps.rating) ∧
    (∀ z, s.straps.zoneFitted z = true →
      ((t.heat.zones.get z).out = true ↔
        (t.heat.zones.get z).state = .regulating ∧
          ∃ i, i < (t.heat.zones.get z).duty ∧ i < 50 ∧
            0 = ((6 * s.straps.station.val + 50 * z.val / s.straps.fitted) % 50 + i) % 50)) ∧
    t.heat.rotationStart =
      (if t.rotates then if s.heat.rotationStart.val + 1 < s.straps.fitted then s.heat.rotationStart + 1 else 0
        else s.heat.rotationStart)

/-- What every window's beginning does, at a boundary and at a window start (R46, R48). -/
def State.BeginsWindow (s t : State) (judged : Fin 4 → Zone) : Prop :=
  s.SettlesPageAndShed t ∧ s.RegulatesAndDemands t judged ∧ s.TakesShare t ∧ s.LoadsAndRotates t

/-! ## What a closed row holds -/

/-- `cell` is one of the cells present at a width (R143, R144). -/
def OpenRow.Present (r : OpenRow) (width maxWidth : Nat) (cell : Cell) : Prop :=
  cell ∈ r.cells.take ((16 * width + maxWidth - 1) / maxWidth)

/-- An enabled mark window overlaps the span of `length` cm from `start` (R145). -/
def MarkWindow.Overlaps (w : MarkWindow) (start length : Nat) : Prop :=
  w.enabled = true ∧ w.start < start + length ∧ start < w.start + w.length

/-- The edge of a row is cold under a threshold: its two outermost cells both carry a reading below it (R147). -/
def Row.ColdEdge (row : Row) (threshold : Nat) : Prop :=
  ∃ k a b, row.cells.length = k + 2 ∧ row.cells[k + 1]? = some (some a) ∧ row.cells[k]? = some (some b) ∧
    a < (threshold : Int) ∧ b < (threshold : Int)

/-- The ring after a row is handed over, by its count and its mode (R153). -/
def Ring.handed (r : Ring) (row : Row) : Ring :=
  if r.rows.length < 512 then
    { r with rows := r.rows ++ [⟨r.next, row⟩], next := r.next + 1, closed := r.closed + 1 }
  else
    match r.mode with
    | .wrap =>
      { r with
        rows := r.rows.drop 1 ++ [⟨r.next, row⟩], next := r.next + 1, closed := r.closed + 1
        overwritten := r.overwritten + 1 }
    | .hold => { r with closed := r.closed + 1, dropped := r.dropped + 1 }

/-! ## The laws of each block's records -/

/-- The Line Interface: QUIET exactly at 32 errors and while the quiet timer runs, with nothing in flight; bytes on the line
exactly while a slot is in flight, and neither during a warm restart; never two slots in flight (R13, R17, R18, R178). -/
def State.LineSound (s : State) : Prop :=
  s.line.errors ≤ Config.quietErrors ∧
    (s.line.state = .quiet ↔ s.line.errors = Config.quietErrors) ∧
    (s.line.state = .quiet ↔ s.line.quietTimer.isSome = true) ∧
    (s.line.state = .quiet → s.line.queue.flying = none) ∧
    (∀ k, (s.line.queue.get k).isInFlight = true → s.line.queue.OnlyFlying k) ∧
    (s.phase = .running → (s.line.sending.isSome = true ↔ s.line.queue.flying.isSome = true)) ∧
    (∀ timer held cause, s.phase = .warm timer held cause → s.line.sending = none ∧ s.line.queue.flying = none)

/-- The Travel Unit: the stop timer runs exactly in PAVING; an uncalibrated station is STOPPED with speed 0; a calibrated one's
remainder is below P; LOST exactly at a calibrated follower without a source; OWN exactly at an encoder station (R22, R26, R28,
R29, R32). -/
def State.TravelSound (s : State) : Prop :=
  (s.travel.stopTimer.isSome = true ↔ s.travel.state = .paving) ∧
    (s.travel.page = none → s.travel.state = .stopped ∧ s.travel.mark = s.travel.chainage ∧ s.travel.speed = 0) ∧
    (∀ p, s.travel.page = some p → s.travel.remainder < p.pulsesPerMetre ∧ 100 ≤ p.pulsesPerMetre) ∧
    (s.travel.state = .lost ↔ s.travel.page.isSome = true ∧ s.travel.source = .none) ∧
    (s.travel.source = .own ↔ s.straps.encoder = true) ∧
    -4 < s.travel.steps ∧ s.travel.steps < 4

/-- A zone: an output is on only in an on-slot of a REGULATING zone that is not cut; an unfitted zone stays IDLE and off (R37,
R51). -/
def State.ZoneSound (s : State) (z : Fin 4) : Prop :=
  ((s.heat.zones.get z).out = true →
      (s.heat.zones.get z).state = .regulating ∧ (s.heat.zones.get z).cut = false ∧
        isOnSlot s.heat.slot (s.straps.offset z) (s.heat.zones.get z).duty = true) ∧
    (s.straps.zoneFitted z = false → (s.heat.zones.get z).state = .idle ∧ (s.heat.zones.get z).out = false)

/-- The Heater Controller: no zone regulates and no output is on unless a window runs under an applied page; the slot is one of the
window's (R39, R43, R44, R45, R51). -/
def State.HeatSound (s : State) : Prop :=
  (∀ z, s.ZoneSound z) ∧
    (∀ z, (s.heat.zones.get z).state = .regulating → s.heat.supply = .running ∧ s.heat.page.isSome = true) ∧
    s.heat.slot < Config.windowSlots ∧
    (s.heat.pending = true → s.heat.supply = .running ∧ s.settings.heat.isSome = true)

/-- The Load Share Unit: the shed factor lies between 32 and 256; STANDING never stands with NONE; SHEDDING only while a window
runs; an acknowledgement is due only in STANDING, and AWAITING-DEMAND or WAITING only with SHED (R71, R73, R76). -/
def State.LoadSound (s : State) : Prop :=
  Config.minShedFactor ≤ s.load.factor ∧ s.load.factor ≤ Config.maxShedFactor ∧
    (s.load.standing = true → s.load.status ≠ .none) ∧
    (s.load.status = .shedding → s.heat.supply = .running) ∧
    (s.load.ack ≠ .notDue → s.load.standing = true) ∧
    (s.load.ack = .awaitingDemand ∨ s.load.ack = .waiting → s.load.status = .shed)

/-- The Levelling Controller: the condition is NONE exactly outside AUTO; a resume record is held only in FROZEN or SETTLING; the
settle mark exactly in SETTLING; the hold causes are empty outside AUTO; HOLD only with a cause; a move issued at a settle end
only in AUTO; a station that is no levelling station stays OFF with its driver NEUTRAL (R81, R82, R88, R105). -/
def State.LevelSound (s : State) : Prop :=
  (s.level.condition = .none ↔ isAuto s.level.mode = false) ∧
    (s.level.resume.isSome = true → s.level.condition = .frozen ∨ s.level.condition = .settling) ∧
    (s.level.settleMark.isSome = true ↔ s.level.condition = .settling) ∧
    (isAuto s.level.mode = false → s.level.causes = ⟨false, false, false⟩ ∧ s.level.redo = false) ∧
    (s.level.condition = .hold → s.level.causes.any = true) ∧
    (s.level.condition = .active → s.level.causes.any = false) ∧
    (s.levelling = false → s.level.mode = .off ∧ s.level.driver = .neutral)

/-- One drive: NONE with command 0 exactly in OFF; STALLED with command 0; the stall timer runs exactly at a command of 200 or more,
and the hold timer exactly in SENSOR-HOLD; no command above 1000; sensor conditions only in AUTO (R117, R120, R126, R127). -/
def DriveRecord.Sound (d : DriveRecord) : Prop :=
  (d.mode = .off ↔ d.condition = .none) ∧
    (d.condition = .none → d.command = 0) ∧
    (d.condition = .stalled → d.command = 0) ∧
    (d.stallTimer.isSome = true ↔ Config.stallCommand ≤ d.command) ∧
    (d.holdTimer.isSome = true ↔ d.condition = .sensorHold) ∧
    (d.condition = .sensorHold ∨ d.condition = .sensorRamp → d.mode = .auto) ∧
    d.command ≤ 1000 ∧ d.manualTarget ≤ 1000

/-- The Feed Controller: both drives are sound, and OFF on a station that is no feed owner (R116, R117). -/
def State.FeedSound (s : State) : Prop :=
  s.feed.conveyor.Sound ∧ s.feed.auger.Sound ∧
    (s.owner = false → s.feed.conveyor.mode = .off ∧ s.feed.auger.mode = .off)

/-- The Record Ring: at most 512 rows, in consecutive sequences from the oldest; rows committed are those released, overwritten and
held, and rows closed are those committed and dropped (R151, R152, R154). -/
def Ring.Sound (r : Ring) : Prop :=
  r.count ≤ Config.ringRows ∧
    (∀ (i : Nat) (h : HeldRow), r.rows[i]? = some h → h.seq = r.oldest + BitVec.ofNat 32 i) ∧
    r.next = r.released + r.overwritten + BitVec.ofNat 32 r.count ∧
    r.closed = r.next + r.dropped

/-- The station state: the park option stands exactly while parked, the waking timer runs exactly in WAKING, a wake is owed only in
PARK-INQUIRY; PARK-INQUIRY is PARK with a collection in flight; while parked no side is in AUTO, both drives are OFF, and the
scanner is off; a row is open only in RUN, at a station with a scanner and a page (R133, R138, R173 to R177). -/
def State.StationSound (s : State) : Prop :=
  (s.sup.option.isSome = true ↔ s.sup.station = .park ∨ s.sup.station = .parkInquiry) ∧
    (s.sup.wakingTimer.isSome = true ↔ s.sup.station = .waking) ∧
    (s.sup.wakeOwed = true → s.sup.station = .parkInquiry) ∧
    (s.sup.station = .park → s.ring.collection.inFlight = false) ∧
    (s.sup.station = .parkInquiry → s.ring.collection.inFlight = true) ∧
    (s.parked = true →
      isAuto s.level.mode = false ∧ s.feed.conveyor.mode = .off ∧ s.feed.auger.mode = .off ∧ s.rows.scannerOn = false) ∧
    (s.rows.openRow.isSome = true → s.sup.station = .run ∧ s.straps.scanner = true ∧ s.rows.page.isSome = true)

/-- A page's fields lie in the ranges of R164. -/
def HeatPage.InRange (p : HeatPage) : Prop :=
  p.capacity ≤ 6000 ∧ 80 ≤ p.setpoint ∧ p.setpoint ≤ 180 ∧ 2 ≤ p.band ∧ p.band ≤ 40 ∧ 60 ≤ p.parkSetpoint ∧
    p.parkSetpoint ≤ 120 ∧ 200 ≤ p.nominalVoltage ∧ p.nominalVoltage ≤ 480 ∧ 70 ≤ p.sagPercent ∧ p.sagPercent ≤ 98

def LevelPage.InRange (p : LevelPage) : Prop :=
  5 ≤ p.gradeDeadband ∧ p.gradeDeadband ≤ 100 ∧ 2 ≤ p.slopeDeadband ∧ p.slopeDeadband ≤ 100 ∧ 1 ≤ p.gradeGain ∧
    p.gradeGain ≤ 100 ∧ 1 ≤ p.slopeGain ∧ p.slopeGain ≤ 100 ∧ 5 ≤ p.minPulse ∧ p.minPulse ≤ 50 ∧ p.deadTime ≤ 500 ∧
    10 ≤ p.settleDistance ∧ p.settleDistance ≤ 200

def FeedGains.InRange (g : FeedGains) : Prop := g.kff ≤ 100 ∧ g.kl ≤ 50 ∧ 10 ≤ g.setpoint ∧ g.setpoint ≤ 90

def FeedPage.InRange (p : FeedPage) : Prop :=
  FeedGains.InRange p.conveyor ∧ FeedGains.InRange p.auger ∧ p.boost ≤ 30 ∧ 500 ≤ p.stallTime ∧ p.stallTime ≤ 5000

def MarkWindow.InRange (w : MarkWindow) : Prop :=
  1 ≤ w.tag ∧ w.tag ≤ 15 ∧ w.start ≤ Config.maxChainage ∧ 1 ≤ w.length ∧ w.length ≤ 100000

def RecordPage.InRange (p : RecordPage) : Prop :=
  (p.rowStep = 25 ∨ p.rowStep = 50 ∨ p.rowStep = 100 ∨ p.rowStep = 200) ∧ 80 ≤ p.coldThreshold ∧ p.coldThreshold ≤ 160 ∧
    ∀ i, MarkWindow.InRange (p.windows.get i)

def TravelPage.InRange (p : TravelPage) : Prop :=
  100 ≤ p.pulsesPerMetre ∧ p.pulsesPerMetre ≤ 20000 ∧ 1 ≤ p.stopTime ∧ p.stopTime ≤ 10

/-- Every held page and every applied page lies in the ranges of R164. -/
def State.PagesSound (s : State) : Prop :=
  (∀ h, s.settings.heat = some h → h.page.InRange) ∧ (∀ h, s.settings.level = some h → h.page.InRange) ∧
    (∀ h, s.settings.feed = some h → h.page.InRange) ∧ (∀ h, s.settings.record = some h → h.page.InRange) ∧
    (∀ h, s.settings.travel = some h → h.page.InRange) ∧ (∀ p, s.heat.page = some p → p.InRange) ∧
    (∀ p, s.level.page = some p → p.InRange) ∧ (∀ p, s.feed.page = some p → p.InRange) ∧
    (∀ p, s.rows.page = some p → p.InRange) ∧ (∀ p, s.travel.page = some p → p.InRange)

/-- The supervisor's marks: between events no STATUS offer is owed (R171). -/
def State.ReportSound (s : State) : Prop := s.sup.offerDue = false

/-! ## Resets -/

/-- The heater outputs, the valve coils and the drive outputs are all off (R178, R179). -/
def State.OutputsOff (s : State) : Prop :=
  (∀ z, s.zoneOutput z = false) ∧ s.coil = none ∧ ∀ d, s.driveOutput d = 0

/-- `t` holds the values every block takes at a warm restart asserted in `s` (R178, Section 11.6). -/
def State.WarmValues (s t : State) : Prop :=
  t.identity = ⟨s.straps, none⟩ ∧
    (t.line.state = .speaking ∧ t.line.errors = 0 ∧ t.line.receiveErrors = 0 ∧ t.line.duplicateTimer = none ∧
      t.line.sending = none ∧ (∀ k, t.line.queue.get k = .empty) ∧
      ∀ n, t.line.peers.get n = ⟨.empty, .empty, .empty, .empty, .empty⟩) ∧
    (t.travel.chainage = s.travel.chainage ∧ t.travel.epoch = s.travel.epoch ∧ t.travel.remainder = s.travel.remainder ∧
      t.travel.state = .stopped ∧ t.travel.speed = 0 ∧ t.travel.page = none ∧ t.travel.stopTimer = none) ∧
    ((∀ z, (t.heat.zones.get z).state = .idle ∧ (t.heat.zones.get z).duty = 0 ∧ (t.heat.zones.get z).out = false) ∧
      t.heat.supply = .starting ∧ t.heat.mode = true ∧ t.heat.page = none) ∧
    (t.load.factor = 256 ∧ t.load.share = 0 ∧ t.load.standing = false ∧ t.load.status = .none ∧ t.load.ack = .notDue ∧
      t.load.table = []) ∧
    (t.level.mode = .off ∧ t.level.condition = .none ∧ t.level.gradeRef = 0 ∧ t.level.slopeRef = 0 ∧
      t.level.page = none ∧ t.level.resume = none ∧
      t.level.driver =
        (match s.level.driver with
          | .driving p => .dead (.one (opposite p.direction)) none none
          | _ => .neutral)) ∧
    (∀ d, (t.feed.drive d).mode = .off ∧ (t.feed.drive d).command = 0) ∧
    t.feed.page = none ∧ t.rows.openRow = none ∧ t.rows.page = none ∧ t.rows.edgeCold = false ∧
    t.ring = { s.ring with collection := t.ring.collection } ∧ t.ring.collection.inFlight = false ∧
    t.settings = ⟨none, none, none, none, none⟩ ∧
    (t.sup.station = .run ∧ t.sup.option = none ∧ t.sup.outcome = none ∧ t.sup.serial = 0 ∧
      t.sup.events = ⟨none, none, none, none⟩)

/-- `t` holds the values every block has as power-on reset is released at clock reading `now` on these straps and pins: its reset
values with its timers started, an active earth-leakage input judged, and the first STATUS offered (R178, R179, Section 11.6). -/
def State.PowerOnValues (t : State) (straps : Straps) (pins : Pins) (now : Nat) : Prop :=
  (t.phase = .running ∧ t.now = now ∧ t.pins = pins ∧ t.identity = ⟨straps, none⟩) ∧
    (t.line.state = .speaking ∧ t.line.errors = 0 ∧ t.line.receiveErrors = 0 ∧ t.line.quietTimer = none ∧
      t.line.duplicateTimer = none ∧ t.line.sending = none ∧ (∀ k, k ≠ .status → t.line.queue.get k = .empty) ∧
      ∀ n, t.line.peers.get n = ⟨.empty, .empty, .empty, .empty, .empty⟩) ∧
    (t.travel.chainage = 0 ∧ t.travel.epoch = 0 ∧ t.travel.remainder = 0 ∧ t.travel.state = .stopped ∧ t.travel.mark = 0 ∧
      t.travel.stopTimer = none ∧ t.travel.speed = 0 ∧ t.travel.bins = [0, 0, 0, 0, 0] ∧ t.travel.currentBin = 0 ∧
      t.travel.source = (if straps.encoder then .own else .none) ∧ t.travel.sourceChanges = 0 ∧ t.travel.page = none ∧
      t.travel.speedTimer = (if straps.encoder then some (now + 1000) else none) ∧
      t.travel.cadence = some (now + 1000)) ∧
    ((∀ z, (t.heat.zones.get z).state =
          (if pins.leakage = true ∧ straps.zoneFitted z = true then .tripped .leakage else .idle) ∧
        (t.heat.zones.get z).temperature = none ∧ (t.heat.zones.get z).sensorFault = false ∧
        (t.heat.zones.get z).demand = 0 ∧ (t.heat.zones.get z).duty = 0 ∧ (t.heat.zones.get z).openCount = 0 ∧
        (t.heat.zones.get z).out = false) ∧
      t.heat.supply = .starting ∧ t.heat.runCount = 0 ∧ t.heat.supplyTimer = some (now + 1000) ∧ t.heat.mode = true ∧
      t.heat.page = none ∧ t.heat.pending = false ∧ t.heat.rotationStart = 0 ∧ t.heat.sensorTimer = some (now + 1000)) ∧
    t.load =
      { ownDemand := 0, total := 0, share := 0, factor := 256, table := [], standing := false, status := .none, ack := .notDue
        idleTimer := some (now + 10000) } ∧
    (t.level.mode = .off ∧ t.level.condition = .none ∧ t.level.causes = ⟨false, false, false⟩ ∧ t.level.gradeRef = 0 ∧
      t.level.slopeRef = 0 ∧ t.level.captured = false ∧ t.level.partner = none ∧ t.level.page = none ∧
      t.level.pending = false ∧ t.level.resume = none ∧ t.level.settleMark = none ∧ t.level.settleCapture = false ∧
      t.level.redo = false ∧ t.level.cadence = some (now + 1000) ∧
      (straps.levelling = true →
        t.level.grade = ⟨none, true, some (now + 2000)⟩ ∧ t.level.slope = ⟨none, true, some (now + 2000)⟩ ∧
          t.level.periodTimer = some (now + 1000)) ∧
      t.level.driver = (if straps.levelling then .dead .both (some (now + 5000)) none else .neutral)) ∧
    ((∀ d, t.feed.drive d =
        { mode := .off, condition := .none, command := 0, manualTarget := 0, stallTimer := none, holdTimer := none
          period := none, lastPulse := none }) ∧
      t.feed.page = none ∧ t.feed.pending = false ∧ t.feed.view = [] ∧ t.feed.cadence = some (now + 5000) ∧
      (straps.levelSensor = true → t.feed.level = ⟨none, true, some (now + 3000)⟩) ∧
      (straps.owner = true →
        t.feed.tunnel = ⟨none, true, some (now + 3000)⟩ ∧ t.feed.periodTimer = some (now + 1000))) ∧
    t.rows =
      { scannerOn := straps.scanner, silence := if straps.scanner then .running (now + 5000) else .stopped, openRow := none
        highWater := none, continuation := none, lastChainage := 0, lastEpoch := 0, edgeCold := false, coldRun := 0
        warmRun := 0, page := none, pending := false } ∧
    (t.ring.rows = [] ∧ t.ring.next = 0 ∧ t.ring.closed = 0 ∧ t.ring.dropped = 0 ∧ t.ring.overwritten = 0 ∧
      t.ring.released = 0 ∧ t.ring.mode = .wrap ∧ t.ring.collection.inFlight = false ∧
      t.ring.collection.outstanding = false ∧ t.ring.collection.final = .absent ∧ t.ring.collection.busy = none ∧
      t.ring.collection.answerOutstanding = false) ∧
    t.settings = ⟨none, none, none, none, none⟩ ∧
    (t.sup.station = .run ∧ t.sup.option = none ∧ t.sup.wakingTimer = none ∧ t.sup.wakeOwed = false ∧
      t.sup.resetCause = .powerOn ∧ t.sup.outcome = none ∧ t.sup.serial = 0 ∧ t.sup.events = ⟨none, none, none, none⟩ ∧
      t.sup.cadence = some (now + 10000)) ∧
    ∃ n, t.line.queue.status.newest = some (.status t.formStatus n)

end Sys2Proof.Machine
end

