-- ==== Sys2Proof/Certificates/Slice0/Obligations.lean ====
section
/-! DEFINITION. The statements for the provers: what the manual's numbered rules say the part does, each about every state that meets
its premises. A frame is given by `State.SameButStatus`: the next state is the one written out but for a STATUS offer. -/

open Sys2Proof Sys2Proof.Machine

/-! ## Steps and the queue of commands -/

/-- A step with a command at the front of the queue is that command's effect, with the queue's rest. -/
def Obligations.StepRunsFrontCommand : Prop :=
  ∀ (s : State) (c : Instr) (rest : List Instr), s.pending = c :: rest → step s = exec c { s with pending := rest }

/-- Every command completes in every state, and leaves the queue and the clock as they are; a step on an empty queue is one tick of
the clock, which changes the clock and the queue and nothing else (the model's choice, assumption 1). -/
def Obligations.CommandsKeepQueueAndClock : Prop :=
  (∀ (c : Instr) (s : State), ∃ t, exec c s = .next t ∧ t.pending = s.pending ∧ t.now = s.now) ∧
  (∀ s : State, s.pending = [] → ∃ t, step s = .next t ∧ t = { s with now := s.now + 1, pending := t.pending })

/-- Whatever command a running part takes that leaves it running, when the command changes the alarm set or a state that STATUS carries,
a STATUS with the content of the new state is offered within it (R16, R171). -/
def Obligations.ChangesAreReported : Prop :=
  ∀ (c : Instr) (s t : State), s.phase = .running → exec c s = .next t → t.phase = .running →
    s.statusStates ≠ t.statusStates → ∃ n, t.line.queue.status.newest = some (.status t.formStatus n)

/-! ## Sending -/

/-- BULLETIN_BEGIN: in SPEAKING with nothing in flight, the WAITING slot of the lowest class and of that class the oldest becomes
IN-FLIGHT and is sent; in QUIET, with a slot in flight, or with no slot WAITING, nothing begins (R6, R13, R14). -/
def Obligations.BeginTakesLowestClassAndOldest : Prop :=
  (∀ (s : State) (k : StationKind) (c : Content) (p : Nat), s.Ready → s.line.state = .speaking →
    (∀ k', (s.line.queue.get k').isInFlight = false) → s.line.queue.get k = .waiting c p →
    (∀ (k' : StationKind) (c' : Content) (p' : Nat), k' ≠ k → s.line.queue.get k' = .waiting c' p' →
      k.cls < k'.cls ∨ (k.cls = k'.cls ∧ p < p')) →
    exec .bulletinBegin s =
      .next
        { s with
          line :=
            { s.line with
              queue := s.line.queue.set k (.inFlight c p none)
              sending := some (frame s.straps.station c) } }) ∧
  (∀ s : State, s.Ready →
    (s.line.state = .quiet ∨ (∃ k, (s.line.queue.get k).isInFlight = true) ∨ ∀ k, s.line.queue.waitsAt k = none) →
    exec .bulletinBegin s = .next s)

/-- CONTENTION_LOST: the entry is WAITING in its slot again at its position, with an offer taken meanwhile in place of its content;
the line error count is unchanged. The field read back being the station's own is no loss (R6, R15). That the event carries the class
and sender read back, and that the follow-on content takes the place of the old, are the model's choice (assumption 6). -/
def Obligations.LostContentionKeepsEntry : Prop :=
  (∀ (s : State) (k : StationKind) (c : Content) (p : Nat) (f : Option Content) (cls : Fin 8) (sender : Fin 16), s.Ready →
    s.line.queue.get k = .inFlight c p f → s.line.queue.OnlyFlying k →
    ¬(cls.val = k.cls ∧ sender.val = s.straps.station.val) →
    exec (.contentionLost cls sender) s =
      .next
        { s with
          line := { s.line with queue := s.line.queue.set k (.waiting (f.getD c) p), sending := none } }) ∧
  (∀ (s : State) (k : StationKind) (c : Content) (p : Nat) (f : Option Content) (cls : Fin 8) (sender : Fin 16), s.Ready →
    s.line.queue.get k = .inFlight c p f → s.line.queue.OnlyFlying k →
    cls.val = k.cls ∧ sender.val = s.straps.station.val → exec (.contentionLost cls sender) s = .next s)

/-- SEND_COMPLETE with success. Of a TRAVEL, HEIGHT or LEVEL, whose blocks are told nothing: the line error count returns to 0 and the
slot is EMPTY, or WAITING with its follow-on content at the newest position, and that is all. Of any kind: the error count returns
to 0, nothing is being sent and no slot is in flight. The report of a STATUS without a follow-on removes each event alarm that it
carried and that was not raised again since it was formed (R15, R17, R170). -/
def Obligations.SuccessSettlesSlot : Prop :=
  (∀ (s : State) (k : StationKind) (c : Content) (p : Nat) (f : Option Content), s.Ready → s.line.state = .speaking →
    s.line.queue.get k = .inFlight c p f → s.line.queue.OnlyFlying k →
    ((∃ x, c = .travel x) ∨ (∃ x, c = .height x) ∨ (∃ x, c = .level x)) →
    exec (.sendComplete .success) s =
      .next
        { s with
          line :=
            { s.line with
              errors := 0
              sending := none
              queue :=
                { s.line.queue.set k
                    (match f with
                      | none => .empty
                      | some g => .waiting g s.line.queue.nextPosition) with
                  nextPosition := s.line.queue.nextPosition + 1 } } }) ∧
  (∀ (s : State) (k : StationKind) (c : Content) (p : Nat) (f : Option Content), s.phase = .running →
    s.line.state = .speaking → s.line.queue.get k = .inFlight c p f → s.line.queue.OnlyFlying k →
    ∃ t, exec (.sendComplete .success) s = .next t ∧ t.line.errors = 0 ∧ t.line.sending = none ∧
      ∀ k', (t.line.queue.get k').isInFlight = false) ∧
  (∀ (s : State) (c : StatusContent) (formed p : Nat), s.phase = .running →
    s.line.queue.get .status = .inFlight (.status c formed) p none → s.line.queue.OnlyFlying .status →
    ∃ t, exec (.sendComplete .success) s = .next t ∧
      (∀ raised, s.sup.events.lineQuiet = some raised →
        (t.alarm .lineQuiet = false ↔ 22 ∈ c.alarms ∧ raised ≤ formed)) ∧
      (∀ raised, s.sup.events.ringOverwrite = some raised →
        (t.alarm .ringOverwrite = false ↔ 17 ∈ c.alarms ∧ raised ≤ formed)) ∧
      (∀ raised, s.sup.events.settingsClamped = some raised →
        (t.alarm .settingsClamped = false ↔ 19 ∈ c.alarms ∧ raised ≤ formed)) ∧
      (∀ raised, s.sup.events.parkRefused = some raised →
        (t.alarm .parkRefused = false ↔ 23 ∈ c.alarms ∧ raised ≤ formed)))

/-- SEND_COMPLETE with a failure, by mismatch or by missing echo: the slot is WAITING again at its old position, with a follow-on
content in place of the one that failed, and the line error count rises by 1; at 32 the LIF goes QUIET, the quiet timer starts
at 1000 ms and LINE-QUIET is raised (R15, R17, R18). -/
def Obligations.FailureReturnsSlot : Prop :=
  (∀ (s : State) (k : StationKind) (c : Content) (p : Nat) (f : Option Content) (result : SendResult), s.Ready →
    s.line.state = .speaking → s.line.queue.get k = .inFlight c p f → s.line.queue.OnlyFlying k → result ≠ .success →
    s.line.errors + 1 < 32 →
    exec (.sendComplete result) s =
      .next
        { s with
          line :=
            { s.line with
              queue := s.line.queue.set k (.waiting (f.getD c) p), sending := none, errors := s.line.errors + 1 } }) ∧
  (∀ (s : State) (k : StationKind) (c : Content) (p : Nat) (f : Option Content) (result : SendResult), s.phase = .running →
    s.line.state = .speaking → s.line.queue.get k = .inFlight c p f → s.line.queue.OnlyFlying k → result ≠ .success →
    s.line.errors + 1 = 32 →
    ∃ t, exec (.sendComplete result) s = .next t ∧ t.alarm .lineQuiet = true ∧
      State.SameButStatus
        { s with
          line :=
            { s.line with
              queue := s.line.queue.set k (.waiting (f.getD c) p), sending := none, errors := 32, state := .quiet
              quietTimer := some (s.now + 10000) }
          sup := { s.sup with events := { s.sup.events with lineQuiet := some s.sup.formed } } }
        t)

/-- QUIET_TIMER_EXPIRY and DUPLICATE_TIMER_EXPIRY: at its time the quiet timer returns the LIF to SPEAKING with a line error count of
0, and the duplicate timer ends DUPLICATE-STATION; before its time, or while it is stopped, a timer does not expire (R11, R18;
that an expiry acts only at its time is assumption 2). -/
def Obligations.LineTimersExpire : Prop :=
  (∀ (s : State) (d : Nat), s.phase = .running → s.line.quietTimer = some d → d ≤ s.now →
    ∃ t, exec .quietTimerExpiry s = .next t ∧
      State.SameButStatus
        { s with line := { s.line with state := .speaking, errors := 0, quietTimer := none } } t) ∧
  (∀ (s : State) (d : Nat), s.phase = .running → s.line.duplicateTimer = some d → d ≤ s.now →
    ∃ t, exec .duplicateTimerExpiry s = .next t ∧ t.alarm .duplicateStation = false ∧
      State.SameButStatus { s with line := { s.line with duplicateTimer := none } } t) ∧
  (∀ s : State, (∀ d, s.line.quietTimer = some d → s.now < d) → exec .quietTimerExpiry s = .next s) ∧
  (∀ s : State, (∀ d, s.line.duplicateTimer = some d → s.now < d) → exec .duplicateTimerExpiry s = .next s)

/-! ## Receiving -/

/-- Every bulletin a station sends, whatever its content, is read back good, with the station's own number as sender, target 15, the
kind's code and its payload, which has the kind's fixed length. What it drives for it is the dominant start mark, then each bit of the
bulletin's bytes, most significant first, 0 dominant and 1 recessive, then the echo field and the end mark, nine recessive bits, so that
it takes 10 bit times more than its bytes (R4, R9, R182; that the levels of the whole frame stand in State is assumption 33). -/
def Obligations.SentBulletinsAreGood : Prop :=
  (∀ (station : Fin 8) (c : Content),
    ∃ b, readBulletin (bulletin station c) = some b ∧ b.sender.val = station.val ∧ b.kind = c.kind.code ∧ b.target = 15 ∧
      b.payload = c.payload ∧ payloadLength c.kind.code = some c.payload.length) ∧
  (∀ (station : Fin 8) (c : Content),
    (frame station c).length = 8 * (bulletin station c).length + 10 ∧ (frame station c)[0]? = some .dominant ∧
      (∀ (i j : Nat) (b : Byte), j < 8 → (bulletin station c)[i]? = some b →
        (frame station c)[1 + 8 * i + j]? = some (if b.getLsbD (7 - j) then .recessive else .dominant)) ∧
      ∀ i, i < 9 → (frame station c)[1 + 8 * (bulletin station c).length + i]? = some .recessive)

/-- A TRAVEL, HEIGHT, DEMAND or LEVEL content within the ranges its layout carries is read from its payload as it was written
(Section 12.3). -/
def Obligations.PeerContentsRoundTrip : Prop :=
  ∀ (c : PeerContent) (m : Content), c.Fits → c.offered = some m → decodePeer m.kind.code m.payload = some c

/-- BULLETIN_RECEIVED for the TRAVEL, HEIGHT, DEMAND or LEVEL another station sends: it is echoed, and its content is entered in that
station's slot, FRESH with its age at 0. (A TRAVEL is covered here at an encoder station, which does not follow, and at a follower in
FollowerTakesLowestCandidate.) A good STATUS of another station is entered likewise, whatever it carries, and brings that station into
the heard set, which otherwise stays (R9, R10, R20, R21) -/
def Obligations.PeerArrivalEntersSlot : Prop :=
  (∀ (s : State) (n : Fin 8) (c : PeerContent) (m : Content), s.phase = .running → n ≠ s.straps.station → c.Fits →
    c.offered = some m → (c.isTravel = false ∨ s.straps.encoder = true) →
    ∃ t, exec (.bulletinReceived (bulletin n m)) s = .next t ∧
      State.SameButStatus
        { s with
          line :=
            { s.line with echoed := true, peers := s.line.peers.set n ((s.line.peers.get n).enter c s.now) } }
        t) ∧
  (∀ (s : State) (n : Fin 8) (bytes : List Byte) (b : Bulletin), s.phase = .running → n ≠ s.straps.station →
    readBulletin bytes = some b → b.sender.val = n.val → b.kind = 16 → b.payload.length = 48 →
    ∃ t, exec (.bulletinReceived bytes) s = .next t ∧
      State.SameButStatus
        { s with
          line :=
            { s.line with
              echoed := true
              peers :=
                s.line.peers.set n { s.line.peers.get n with status := .fresh (decodeStatus b.payload) s.now } } }
        t ∧
      n ∈ t.heard ∧ ∀ m, m ≠ n → (m ∈ t.heard ↔ m ∈ s.heard))

/-- BULLETIN_RECEIVED for a bulletin that nothing here takes. One that was cut off, announces more than 48 bytes, or whose checksum does
not match is discarded and not echoed, and the receive error count rises by 1, to at most 65535. A good one with the station's own
number is echoed, raises DUPLICATE-STATION and restarts the duplicate timer at 5000 ms, and nothing else. A peer's bulletin of a kind
without a slot, a console's bulletin of a station kind or with another target, a kind code that names no kind, and a payload length
that is not the kind's are echoed and discarded. So are a LEVEL whose section kind names no value and a command whose selecting field
names none: a MODE's function, or its value against the function, a JOG's direction, a PARK's option, a CLEAR's function and a
SETTINGS' page (R9 to R11, R182, R183). -/
def Obligations.UntakenBulletinsAreDiscarded : Prop :=
  (∀ (s : State) (bytes : List Byte), s.phase = .running →
    (bytes.length < 4 ∨ 48 < fieldAt bytes 3 1 ∨ bytes.length < fieldAt bytes 3 1 + 6 ∨
      (checksum (bytes.take (4 + fieldAt bytes 3 1))).toNat ≠ fieldAt bytes (4 + fieldAt bytes 3 1) 2) →
    ∃ t, exec (.bulletinReceived bytes) s = .next t ∧
      State.SameButStatus
        { s with line := { s.line with receiveErrors := min 65535 (s.line.receiveErrors + 1), echoed := false } } t) ∧
  (∀ (s : State) (bytes : List Byte) (b : Bulletin), s.phase = .running → readBulletin bytes = some b →
    b.sender.val = s.straps.station.val →
    ∃ t, exec (.bulletinReceived bytes) s = .next t ∧ t.alarm .duplicateStation = true ∧
      State.SameButStatus
        { s with line := { s.line with echoed := true, duplicateTimer := some (s.now + 50000) } } t) ∧
  (∀ (s : State) (bytes : List Byte) (b : Bulletin), s.phase = .running → readBulletin bytes = some b →
    b.sender.val ≠ s.straps.station.val →
    ((b.sender.val < 8 ∧ b.kind ∉ [4, 5, 13, 14, 16]) ∨ (8 ≤ b.sender.val ∧ b.kind ∈ [3, 4, 5, 13, 14, 16, 19, 20]) ∨
      (8 ≤ b.sender.val ∧ b.target ≠ s.straps.station.val ∧ b.target ≠ 15) ∨ b.kind = 0 ∨ 20 < b.kind ∨
      payloadLength b.kind ≠ some b.payload.length) →
    ∃ t, exec (.bulletinReceived bytes) s = .next t ∧
      State.SameButStatus { s with line := { s.line with echoed := true } } t) ∧
  (∀ (s : State) (bytes : List Byte) (b : Bulletin), s.phase = .running → readBulletin bytes = some b →
    b.sender.val ≠ s.straps.station.val →
    ((b.sender.val < 8 ∧ b.kind = 14 ∧ bits (fieldAt b.payload 0 1) 6 5 = 3) ∨
      (8 ≤ b.sender.val ∧ b.kind = 6 ∧
        (3 < fieldAt b.payload 0 1 ∨ (fieldAt b.payload 0 1 = 0 ∧ 1 < fieldAt b.payload 1 1) ∨
          (fieldAt b.payload 0 1 = 1 ∧ 3 < fieldAt b.payload 1 1) ∨
          ((fieldAt b.payload 0 1 = 2 ∨ fieldAt b.payload 0 1 = 3) ∧ 2 < fieldAt b.payload 1 1))) ∨
      (8 ≤ b.sender.val ∧ (b.kind = 7 ∨ b.kind = 8) ∧ 1 < fieldAt b.payload 0 1) ∨
      (8 ≤ b.sender.val ∧ b.kind = 10 ∧ 0 < fieldAt b.payload 0 1) ∨
      (8 ≤ b.sender.val ∧ b.kind = 15 ∧ 4 < fieldAt b.payload 0 1)) →
    ∃ t, exec (.bulletinReceived bytes) s = .next t ∧
      State.SameButStatus { s with line := { s.line with echoed := true } } t)

/-- BULLETIN_RECEIVED for a console's command with this station as target, or all stations: what the part does is the echo and then
the command's own row of the table (R10; assumption 7). -/
def Obligations.LineCommandsReachTheirOwners : Prop :=
  ∀ (s : State) (bytes : List Byte) (b : Bulletin) (c : LineCommand), s.phase = .running → readBulletin bytes = some b →
    8 ≤ b.sender.val → payloadLength b.kind = some b.payload.length →
    (b.target = s.straps.station.val ∨ b.target = 15) → decodeCommand b.kind b.payload = some c →
    exec (.bulletinReceived bytes) s = exec (c.row b.sender) { s with line := { s.line with echoed := true } }

/-- PEER_SLOT_STALE: a FRESH slot whose age has exceeded its limit, 300 ms for TRAVEL and HEIGHT, 2500 ms for DEMAND, 1500 ms for
LEVEL and 5000 ms for STATUS, becomes STALE and keeps its content; one within its limit stays. A station whose STATUS slot goes stale
leaves the heard set. (TRAVEL is covered here at an encoder station.) (R19 to R21; assumption 38 for the limit itself) -/
def Obligations.PeerSlotsTurnStale : Prop :=
  (∀ (s : State) (n : Fin 8) (c : TravelContent) (since : Nat), s.phase = .running → s.straps.encoder = true →
    (s.line.peers.get n).travel = .fresh c since → since + 3000 < s.now →
    ∃ t, exec (.peerSlotStale n .travel) s = .next t ∧
      State.SameButStatus
        { s with line := { s.line with peers := s.line.peers.set n { s.line.peers.get n with travel := .stale c } } } t) ∧
  (∀ (s : State) (n : Fin 8) (c : HeightContent) (since : Nat), s.phase = .running →
    (s.line.peers.get n).height = .fresh c since → since + 3000 < s.now →
    ∃ t, exec (.peerSlotStale n .height) s = .next t ∧
      State.SameButStatus
        { s with line := { s.line with peers := s.line.peers.set n { s.line.peers.get n with height := .stale c } } } t) ∧
  (∀ (s : State) (n : Fin 8) (c : DemandContent) (since : Nat), s.phase = .running →
    (s.line.peers.get n).demand = .fresh c since → since + 25000 < s.now →
    ∃ t, exec (.peerSlotStale n .demand) s = .next t ∧
      State.SameButStatus
        { s with line := { s.line with peers := s.line.peers.set n { s.line.peers.get n with demand := .stale c } } } t) ∧
  (∀ (s : State) (n : Fin 8) (c : LevelContent) (since : Nat), s.phase = .running →
    (s.line.peers.get n).level = .fresh c since → since + 15000 < s.now →
    ∃ t, exec (.peerSlotStale n .level) s = .next t ∧
      State.SameButStatus
        { s with line := { s.line with peers := s.line.peers.set n { s.line.peers.get n with level := .stale c } } } t) ∧
  (∀ (s : State) (n : Fin 8) (c : StatusContent) (since : Nat), s.phase = .running →
    (s.line.peers.get n).status = .fresh c since → since + 50000 < s.now →
    ∃ t, exec (.peerSlotStale n .status) s = .next t ∧
      State.SameButStatus
        { s with line := { s.line with peers := s.line.peers.set n { s.line.peers.get n with status := .stale c } } } t ∧
      (n ≠ s.straps.station → n ∉ t.heard)) ∧
  (∀ (s : State) (n : Fin 8) (k : PeerKind), s.Ready → (s.line.peers.get n).isDue k s.now = false →
    exec (.peerSlotStale n k) s = .next s)

/-! ## Cadences -/

/-- TRAVEL_CADENCE, HEIGHT_CADENCE, LEVEL_CADENCE and STATUS_CADENCE: each expiry runs the next period, of 100, 100, 500 and 1000 ms,
and offers its kind with the content of the present state when its condition holds: an encoder station, a levelling station
whose side mode is not OFF, a level sensor or a feed owner, and every station. IDLE_DEMAND_TIMER_EXPIRY runs the next 1000 ms and at a
station with a zone fitted offers a DEMAND of 0 with the heating state, the shed factor and the total last recorded (R16, R35, R69,
R102, R129, R171; the next period runs from the time that came: assumption 2). -/
def Obligations.CadencesOffer : Prop :=
  (∀ (s : State) (d : Nat), s.phase = .running → s.travel.cadence = some d → d ≤ s.now →
    ∃ t, exec .travelCadence s = .next t ∧
      State.SameButStatus
        (let u : State := { s with travel := { s.travel with cadence := some (d + 1000) } }
         if s.straps.encoder then
           u.offer
             (.travel
               ⟨s.travel.chainage, s.travel.epoch, s.travel.speed, s.travel.state, s.travel.page.isSome⟩)
         else u) t) ∧
  (∀ (s : State) (d : Nat), s.phase = .running → s.level.cadence = some d → d ≤ s.now →
    ∃ t, exec .heightCadence s = .next t ∧
      State.SameButStatus
        (let u : State := { s with level := { s.level with cadence := some (d + 1000) } }
         if s.levelling = true ∧ s.level.mode ≠ .off then u.offer (.height s.heightContent) else u) t) ∧
  (∀ (s : State) (d : Nat), s.phase = .running → s.feed.cadence = some d → d ≤ s.now →
    ∃ t, exec .levelCadence s = .next t ∧
      State.SameButStatus
        (let u : State := { s with feed := { s.feed with cadence := some (d + 5000) } }
         if s.straps.levelSensor = true ∨ s.owner = true then u.offer (.level s.levelContent) else u) t) ∧
  (∀ (s : State) (d : Nat), s.phase = .running → s.sup.cadence = some d → d ≤ s.now →
    ∃ t, exec .statusCadence s = .next t ∧
      State.SameButStatus { s with sup := { s.sup with cadence := some (d + 10000) } } t ∧
      ∃ n, t.line.queue.status.newest = some (.status t.formStatus n)) ∧
  (∀ (s : State) (d : Nat), s.phase = .running → s.load.idleTimer = some d → d ≤ s.now →
    ∃ t, exec .idleDemandTimerExpiry s = .next t ∧
      State.SameButStatus
        (let u : State := { s with load := { s.load with idleTimer := some (d + 10000) } }
         if s.straps.fitted = 0 then u else u.offer (.demand ⟨0, s.heating, s.load.factor, s.load.total⟩)) t)

/-! ## Travel -/

/-- ENCODER_CHANGE: the change that completes a pulse at a calibrated encoder station counts it in the speed bin and moves the
remainder and the chainage: forward by R24, with the surplus above the highest chainage discarded, and backward by R25, with
the clamp at zero; at an uncalibrated one the pulse is discarded. The heating, the feed, the pages and the station are not touched.
A pulse that moves the chainage gives the travel state, its mark and the stop timer by the table of R28 and by R29, and one that does
not leaves them; an open row that goes on marks reverse inside at a change to REVERSING, and a stretch of standing ends at a change to
REVERSING or PAVING. A change that completes no pulse moves the quadrature position by one step, one that skips a pair or changes none is
discarded, and a follower does not read its encoder inputs; the new pair is the position from which the next change is judged (R23 to
R26, R28, R29, R136; that the level pairs are numbered in the forward order is the model's choice, assumption 9). -/
def Obligations.EncoderPulsesMoveChainage : Prop :=
  (∀ (s : State) (page : TravelPage), s.phase = .running → s.straps.encoder = true → s.travel.page = some page →
    s.travel.steps = 3 →
    ∃ t, exec (.encoderChange (s.pins.encoder + 1)) s = .next t ∧ t.pins = { s.pins with encoder := s.pins.encoder + 1 } ∧
      t.travel.steps = 0 ∧ t.travel.currentBin = s.travel.currentBin + 1 ∧ t.travel.epoch = s.travel.epoch ∧
      (t.travel.chainage, t.travel.remainder) =
        (if s.travel.remainder + 100 < page.pulsesPerMetre then (s.travel.chainage, s.travel.remainder + 100)
          else if 2147483647 ≤ s.travel.chainage then (s.travel.chainage, page.pulsesPerMetre - 1)
          else (s.travel.chainage + 1, s.travel.remainder + 100 - page.pulsesPerMetre)) ∧
      t.heat = s.heat ∧ t.load = s.load ∧ t.feed = s.feed ∧ t.settings = s.settings ∧ t.identity = s.identity) ∧
  (∀ (s : State) (page : TravelPage), s.phase = .running → s.straps.encoder = true → s.travel.page = some page →
    s.travel.steps = -3 →
    ∃ t, exec (.encoderChange (s.pins.encoder + 3)) s = .next t ∧ t.pins = { s.pins with encoder := s.pins.encoder + 3 } ∧
      t.travel.steps = 0 ∧ t.travel.currentBin = s.travel.currentBin - 1 ∧ t.travel.epoch = s.travel.epoch ∧
      (t.travel.chainage, t.travel.remainder) =
        (if 100 ≤ s.travel.remainder then (s.travel.chainage, s.travel.remainder - 100)
          else if s.travel.chainage = 0 then (0, 0)
          else (s.travel.chainage - 1, s.travel.remainder + page.pulsesPerMetre - 100)) ∧
      t.heat = s.heat ∧ t.load = s.load ∧ t.feed = s.feed ∧ t.settings = s.settings ∧ t.identity = s.identity) ∧
  (∀ (s : State) (page : TravelPage) (forward : Bool) (c : Nat), s.phase = .running → s.straps.encoder = true →
    s.travel.page = some page → s.travel.steps = (if forward then 3 else -3) →
    (forward = true →
      page.pulsesPerMetre ≤ s.travel.remainder + 100 ∧ s.travel.chainage < 2147483647 ∧ c = s.travel.chainage + 1) →
    (forward = false → s.travel.remainder < 100 ∧ c + 1 = s.travel.chainage) →
    ∃ t, exec (.encoderChange (if forward then s.pins.encoder + 1 else s.pins.encoder + 3)) s = .next t ∧
      t.travel.chainage = c ∧
      (t.travel.state, t.travel.mark, t.travel.stopTimer) =
        s.travel.ruled c (s.now + 10000 * page.stopTime) forward ∧
      ∀ r, s.straps.scanner = true → s.rows.openRow = some r → c < r.finish →
        (t.travel.state = s.travel.state → t.rows.openRow = some r) ∧
        (s.travel.state ≠ .reversing → t.travel.state = .reversing →
          t.rows.openRow =
            some
              { r with
                flags := { r.flags with reverseInside := true }, stoppedTicks := r.stoppedFor s.now
                stoppedSince := none }) ∧
        (s.travel.state ≠ .paving → t.travel.state = .paving →
          t.rows.openRow = some { r with stoppedTicks := r.stoppedFor s.now, stoppedSince := none })) ∧
  (∀ (s : State) (page : TravelPage) (forward : Bool), s.phase = .running → s.straps.encoder = true →
    s.travel.page = some page → s.travel.steps = (if forward then 3 else -3) →
    (if forward then s.travel.remainder + 100 < page.pulsesPerMetre ∨ 2147483647 ≤ s.travel.chainage
      else 100 ≤ s.travel.remainder ∨ s.travel.chainage = 0) →
    ∃ t, exec (.encoderChange (if forward then s.pins.encoder + 1 else s.pins.encoder + 3)) s = .next t ∧
      t.travel.state = s.travel.state ∧ t.travel.mark = s.travel.mark ∧ t.travel.stopTimer = s.travel.stopTimer ∧
      t.level = s.level ∧ t.rows = s.rows ∧ t.ring = s.ring) ∧
  (∀ (s : State) (forward : Bool), s.phase = .running → s.straps.encoder = true → s.travel.page = none →
    s.travel.steps = (if forward then 3 else -3) →
    ∃ t, exec (.encoderChange (if forward then s.pins.encoder + 1 else s.pins.encoder + 3)) s = .next t ∧
      State.SameButStatus
        { s with
          pins := { s.pins with encoder := if forward then s.pins.encoder + 1 else s.pins.encoder + 3 }
          travel := { s.travel with steps := 0 } } t) ∧
  (∀ s : State, s.phase = .running → s.straps.encoder = true → -4 < s.travel.steps → s.travel.steps < 3 →
    ∃ t, exec (.encoderChange (s.pins.encoder + 1)) s = .next t ∧
      State.SameButStatus
        { s with
          pins := { s.pins with encoder := s.pins.encoder + 1 }
          travel := { s.travel with steps := s.travel.steps + 1 } } t) ∧
  (∀ s : State, s.phase = .running → s.straps.encoder = true → -3 < s.travel.steps → s.travel.steps < 4 →
    ∃ t, exec (.encoderChange (s.pins.encoder + 3)) s = .next t ∧
      State.SameButStatus
        { s with
          pins := { s.pins with encoder := s.pins.encoder + 3 }
          travel := { s.travel with steps := s.travel.steps - 1 } } t) ∧
  (∀ (s : State) (pair : Fin 4), s.phase = .running →
    (s.straps.encoder = false ∨ pair = s.pins.encoder ∨ pair = s.pins.encoder + 2) →
    ∃ t, exec (.encoderChange pair) s = .next t ∧
      State.SameButStatus { s with pins := { s.pins with encoder := pair } } t)

/-- P forward pulses give exactly 100 cm for any P, and a backward pulse takes a forward pulse back: no pulse is lost to rounding
(Section 2.2). -/
def Obligations.PulsesLoseNothingToRounding : Prop :=
  (∀ p r c : Nat, 100 ≤ p → r < p → c + 100 ≤ 2147483647 →
    (fun x : Nat × Nat => forwardPulse x.1 x.2 p)^[p] (r, c) = (r, c + 100)) ∧
  (∀ p r c : Nat, 100 ≤ p → r < p → c < 2147483647 →
    (let x := forwardPulse r c p
     backwardPulse x.1 x.2 p) = (r, c))

/-- SPEED_TIMER_EXPIRY at a calibrated station: the current bin closes, the speed is N times 1200 over P toward zero, clamped to ±250,
N being the sum of the five latest bins within ±32767, and the timer runs another 100 ms. At an uncalibrated station the bins are
held at 0 and the speed is 0 (R26, R27; the period runs from the time that came: assumption 2). -/
def Obligations.SpeedFollowsFiveBins : Prop :=
  ∀ (s : State) (d : Nat), s.phase = .running → s.travel.speedTimer = some d → d ≤ s.now →
    ∃ t, exec .speedTimerExpiry s = .next t ∧
      State.SameButStatus
        { s with
          travel :=
            match s.travel.page with
            | some page =>
              { s.travel with
                speedTimer := some (d + 1000)
                bins := s.travel.currentBin :: s.travel.bins.take 4
                currentBin := 0
                speed :=
                  max (-250) (min 250
                    (Int.tdiv
                      (max (-32767) (min 32767 (s.travel.currentBin :: s.travel.bins.take 4).sum) * 1200)
                      page.pulsesPerMetre)) }
            | none =>
              { s.travel with speedTimer := some (d + 1000), bins := [0, 0, 0, 0, 0], currentBin := 0, speed := 0 } }
        t

/-- STOP_TIMER_EXPIRY: the travel state becomes STOPPED with the mark at the present chainage and the timer stopped, and the chainage
is not changed. At a station with neither a side to level nor a scanner nothing else is. At a levelling station in AUTO that is
ACTIVE or in HOLD the side freezes: no coil stays energised, the condition is FROZEN, and a record is written with the chainage and
epoch, the captured reference, the last reading of the mode's sensor with its status, the running pulse with its whole remaining
milliseconds, rounded down (assumption 12), when there is at least one, and no nested stop. One that is SETTLING stops nested: it is
FROZEN again with no coil energised, the settle mark is gone, and the record, when there is one, is kept with its nested-stop count
one higher, to at most 255. An open row marks stop inside and when the standing began (R29, R106, R112, R136). -/
def Obligations.StopTimerStopsAndFreezes : Prop :=
  (∀ (s : State) (d : Nat), s.phase = .running → s.travel.stopTimer = some d → d ≤ s.now →
    ∃ t, exec .stopTimerExpiry s = .next t ∧
      t.travel = { s.travel with state := .stopped, mark := s.travel.chainage, stopTimer := none } ∧
      t.ring = s.ring ∧ t.heat = s.heat ∧ t.load = s.load ∧ t.feed = s.feed ∧ t.settings = s.settings ∧
      (s.levelling = false → s.straps.scanner = false → State.SameButStatus { s with travel := t.travel } t)) ∧
  (∀ (s : State) (d : Nat), s.phase = .running → s.travel.stopTimer = some d → d ≤ s.now → s.travel.state = .paving →
    s.levelling = true → isAuto s.level.mode = true → (s.level.condition = .active ∨ s.level.condition = .hold) →
    ∃ t, exec .stopTimerExpiry s = .next t ∧ t.level.condition = .frozen ∧ t.level.driver.energised = none ∧
      t.level.causes = s.level.causes ∧
      t.level.resume =
        some
          { chainage := s.travel.chainage
            epoch := s.travel.epoch
            reference :=
              if s.level.captured then
                some (if s.level.mode = .autoSlope then s.level.slopeRef else s.level.gradeRef)
              else none
            reading :=
              (let sensor := if s.level.mode = .autoSlope then s.level.slope else s.level.grade
               sensor.last.map fun v => (v, sensor.fault))
            move :=
              match s.level.driver with
              | .driving p => if s.now + 10 ≤ p.endAt then some (p.direction, (p.endAt - s.now) / 10) else none
              | _ => none
            nested := 0 }) ∧
  (∀ (s : State) (d : Nat), s.phase = .running → s.travel.stopTimer = some d → d ≤ s.now → s.travel.state = .paving →
    s.levelling = true → isAuto s.level.mode = true → s.level.condition = .settling →
    ∃ t, exec .stopTimerExpiry s = .next t ∧ t.level.driver.energised = none ∧
      t.level =
        { s.level with
          condition := .frozen, settleMark := none, redo := false, driver := t.level.driver
          resume := s.level.resume.map fun r => { r with nested := min 255 (r.nested + 1) } }) ∧
  (∀ (s : State) (d : Nat) (r : OpenRow), s.phase = .running → s.travel.stopTimer = some d → d ≤ s.now →
    s.travel.state = .paving → s.straps.scanner = true → s.rows.openRow = some r →
    ∃ t, exec .stopTimerExpiry s = .next t ∧
      t.rows =
        { s.rows with
          openRow :=
            some
              { r with
                flags := { r.flags with stopInside := true }
                stoppedSince := some (r.stoppedSince.getD s.now) } })

/-- REBASE: the chainage is set, clamped to 100,000,000, the remainder is 0, the epoch advances by 1 wrapping, the state is STOPPED, or
LOST at a calibrated station without a source, with the mark at the new chainage; speed and bins are kept. At a station with a
scanner the open row closes, and the high-water mark and continuation point become none (R33, R141). -/
def Obligations.RebaseSetsTravel : Prop :=
  ∀ (s : State) (value : Word32), s.phase = .running →
    ∃ t, exec (.rebase value) s = .next t ∧
      t.travel =
        { s.travel with
          chainage := min value.toNat 100000000
          remainder := 0
          epoch := s.travel.epoch + 1
          state := if s.travel.page.isSome = true ∧ s.travel.source = .none then .lost else .stopped
          mark := min value.toNat 100000000
          stopTimer := none } ∧
      t.heat = s.heat ∧ t.load = s.load ∧ t.feed = s.feed ∧ t.settings = s.settings ∧
      (s.straps.scanner = true →
        t.rows.openRow = none ∧ t.rows.highWater = none ∧ t.rows.continuation = none ∧
          t.rows.lastChainage = t.travel.chainage ∧ t.rows.lastEpoch = t.travel.epoch)

/-- PEER_SLOT_STALE for a TRAVEL slot at a follower: the travel source is then the lowest-numbered station whose slot is FRESH and
whose sender counts an encoder, and NONE when there is none; when it becomes NONE, chainage and epoch are held, the speed is
0, and a calibrated follower is LOST with its mark at the chainage. BULLETIN_RECEIVED for the TRAVEL of the lowest station that counts
an encoder: it is the source, a change of source to a station other than the previous one is counted, to at most 255, and its chainage,
epoch and speed are taken, the speed at a calibrated follower alone (assumption 24). Content of another epoch is a rebase: the state is
STOPPED at the new chainage, and the open row closes. Content of the same epoch is a change of chainage by the table of R28 and by R29;
in LOST the state becomes PAVING, REVERSING or STOPPED by the distance from the LOST mark. A TRAVEL of another station than a lower
source that stays is entered and no more (R30 to R32). -/
def Obligations.FollowerTakesLowestCandidate : Prop :=
  (∀ (s : State) (n : Fin 8), s.phase = .running → s.straps.encoder = false →
    (s.line.peers.get n).isDue .travel s.now = true →
    ∃ t, exec (.peerSlotStale n .travel) s = .next t ∧ t.candidate n = none ∧
      (∀ m : Fin 8, t.travel.source = .station m ↔
        ((t.candidate m).isSome = true ∧ ∀ k : Fin 8, k < m → t.candidate k = none)) ∧
      (t.travel.source = .none ↔ ∀ k, t.candidate k = none) ∧
      (t.travel.source = .none → s.travel.source ≠ .none →
        t.travel.chainage = s.travel.chainage ∧ t.travel.epoch = s.travel.epoch ∧ t.travel.speed = 0 ∧
          (s.travel.page.isSome = true →
            t.travel.state = .lost ∧ t.travel.mark = s.travel.chainage ∧ t.travel.stopTimer = none))) ∧
  (∀ (s : State) (n : Fin 8) (c : TravelContent), s.phase = .running → s.straps.encoder = false →
    n ≠ s.straps.station → c.Fits → c.counts = true → (∀ k < n, s.candidate k = none) →
    ∃ t, exec (.bulletinReceived (bulletin n (.travel c))) s = .next t ∧
      (t.line.peers.get n).travel = .fresh c s.now ∧ t.line.echoed = true ∧ t.travel.source = .station n ∧
      t.travel.previous = (if s.travel.source = .station n then s.travel.previous else some n) ∧
      t.travel.sourceChanges =
        (if s.travel.source = .station n ∨ s.travel.previous = none ∨ s.travel.previous = some n then s.travel.sourceChanges
          else min 255 (s.travel.sourceChanges + 1)) ∧
      t.travel.chainage = c.chainage ∧ t.travel.epoch = c.epoch ∧ t.travel.remainder = s.travel.remainder ∧
      t.travel.speed = (if s.travel.page.isSome then c.speed else 0) ∧
      (c.epoch ≠ s.travel.epoch →
        t.travel.state = .stopped ∧ t.travel.mark = c.chainage ∧ t.travel.stopTimer = none ∧
          (s.straps.scanner = true →
            t.rows.openRow = none ∧ t.rows.highWater = none ∧ t.rows.continuation = none ∧
              t.rows.lastChainage = c.chainage ∧ t.rows.lastEpoch = c.epoch)) ∧
      (∀ page, c.epoch = s.travel.epoch → s.travel.page = some page → s.travel.state ≠ .lost →
        (t.travel.state, t.travel.mark, t.travel.stopTimer) =
          (if c.chainage = s.travel.chainage then (s.travel.state, s.travel.mark, s.travel.stopTimer)
            else
              s.travel.ruled c.chainage (s.now + 10000 * page.stopTime) (decide (s.travel.chainage < c.chainage)))) ∧
      (∀ page, c.epoch = s.travel.epoch → s.travel.page = some page → s.travel.state = .lost →
        (t.travel.state, t.travel.mark, t.travel.stopTimer) =
          (if s.travel.mark + 5 ≤ c.chainage then (.paving, c.chainage, some (s.now + 10000 * page.stopTime))
            else if c.chainage + 5 ≤ s.travel.mark then (.reversing, c.chainage, none)
            else (.stopped, s.travel.mark, none)))) ∧
  (∀ (s : State) (n m : Fin 8) (c : TravelContent), s.phase = .running → s.straps.encoder = false →
    n ≠ s.straps.station → c.Fits → m < n → s.travel.source = .station m → (s.candidate m).isSome = true →
    (∀ k < m, s.candidate k = none) →
    ∃ t, exec (.bulletinReceived (bulletin n (.travel c))) s = .next t ∧
      State.SameButStatus
        { s with
          line :=
            { s.line with
              echoed := true, peers := s.line.peers.set n { s.line.peers.get n with travel := .fresh c s.now } } }
        t)

/-! ## Heating and the generator -/

/-- HEAT_SENSOR_TIMER_EXPIRY: each fitted zone is sampled: a value of −40 to 300 °C is its temperature, and anything else sets the
sensor status FAULT. A zone that is not TRIPPED trips at once by the first of LEAKAGE, SENSOR and OVERTEMP (220 °C or more) that
holds; a TRIPPED zone and an unfitted one keep their state. The open row's trip seen is set when a zone trips, and the open row stays
otherwise (R38, R55, R56; that the readings come with the expiry is assumption 4, and that the next period runs from the time that came
is the model's choice, assumption 2). -/
def Obligations.PlateSamplesTripZones : Prop :=
  ∀ (s : State) (samples : Quad Reading) (d : Nat), s.phase = .running → s.heat.sensorTimer = some d → d ≤ s.now →
    ∃ t, exec (.heatSensorTimerExpiry samples) s = .next t ∧
      State.SameButStatus
        { s with
          heat := { s.heat with sensorTimer := some (d + 1000), zones := t.heat.zones }
          rows := { s.rows with openRow := t.rows.openRow } } t ∧
      ((∀ z : Fin 4, (t.heat.zones.get z).state = (s.heat.zones.get z).state) → t.rows.openRow = s.rows.openRow) ∧
      ((∃ z : Fin 4, (t.heat.zones.get z).state ≠ (s.heat.zones.get z).state) →
        t.rows.openRow = s.rows.openRow.map fun r => { r with flags := { r.flags with tripSeen := true } }) ∧
      ∀ z : Fin 4,
        (s.straps.zoneFitted z = false → t.heat.zones.get z = s.heat.zones.get z) ∧
        (s.straps.zoneFitted z = true → ∀ sampled : Zone,
          ((∃ v, samples.get z = .value v ∧ -40 ≤ v ∧ v ≤ 300 ∧
              sampled = { s.heat.zones.get z with temperature := some v, sensorFault := false }) ∨
            ((∀ v, samples.get z = .value v → v < -40 ∨ 300 < v) ∧
              sampled = { s.heat.zones.get z with sensorFault := true })) →
          t.heat.zones.get z =
            (if sampled.state.isTripped then sampled
              else if s.pins.leakage then
                { sampled with state := .tripped .leakage, cut := true, out := false, openCount := 0 }
              else if sampled.sensorFault then
                { sampled with state := .tripped .sensor, cut := true, out := false, openCount := 0 }
              else if 220 ≤ sampled.temperature.getD 0 then
                { sampled with state := .tripped .overtemp, cut := true, out := false, openCount := 0 }
              else sampled))

/-- LEAKAGE_INPUT_ACTIVE: the input going active trips every fitted zone not already TRIPPED with cause LEAKAGE, which cuts it and
switches its output off; the input going inactive changes the input alone (assumption 8). ZONE_OVERCURRENT: a current above 130 % of
the rated current 10 × R / V during an on-slot of a REGULATING zone that is not cut trips the zone OVERCURRENT at once, and the open
row's trip seen is set; any other current changes nothing (R53, R55, R56; the current is in mA: assumption 10). -/
def Obligations.LeakageAndOvercurrentTrip : Prop :=
  (∀ s : State, s.phase = .running →
    ∃ t, exec (.leakageInputActive true) s = .next t ∧
      State.SameButStatus
        { s with
          pins := { s.pins with leakage := true }
          heat := { s.heat with zones := t.heat.zones }
          rows := { s.rows with openRow := t.rows.openRow } } t ∧
      ∀ z : Fin 4,
        t.heat.zones.get z =
          (if s.straps.zoneFitted z = true ∧ (s.heat.zones.get z).state.isTripped = false then
            { s.heat.zones.get z with state := .tripped .leakage, cut := true, out := false, openCount := 0 }
          else s.heat.zones.get z)) ∧
  (∀ s : State, s.phase = .running →
    ∃ t, exec (.leakageInputActive false) s = .next t ∧
      State.SameButStatus { s with pins := { s.pins with leakage := false } } t) ∧
  (∀ (s : State) (page : HeatPage) (z : Fin 4) (current : Nat), s.phase = .running → s.heat.page = some page →
    ((s.heat.zones.get z).out = true ∧ (s.heat.zones.get z).state = .regulating ∧ (s.heat.zones.get z).cut = false ∧
        130 * (10 * s.straps.rating) * 1000 < 100 * current * page.nominalVoltage →
      ∃ t, exec (.zoneOvercurrent z current) s = .next t ∧
        State.SameButStatus
          { s with
            heat :=
              { s.heat with
                zones :=
                  s.heat.zones.set z
                    { s.heat.zones.get z with
                      state := .tripped .overcurrent, cut := true, out := false, openCount := 0 } }
            rows :=
              { s.rows with
                openRow := s.rows.openRow.map fun r => { r with flags := { r.flags with tripSeen := true } } } }
          t) ∧
    (¬((s.heat.zones.get z).out = true ∧ (s.heat.zones.get z).state = .regulating ∧ (s.heat.zones.get z).cut = false ∧
        130 * (10 * s.straps.rating) * 1000 < 100 * current * page.nominalVoltage) →
      ∃ t, exec (.zoneOvercurrent z current) s = .next t ∧ State.SameButStatus s t))

/-- ZERO_CROSSING that begins a slot other than slot 0: the slot advances, the supply timer restarts at 100 ms, and each fitted zone's
output is on exactly when the zone is REGULATING, is not cut, and the slot is one of its on-slots: the `duty` consecutive slots
from its offset 6 × station + floor(50 × z / Z), wrapping. A zone that was on and drew 10 % of its rated current is marked so
(R43, R44, R51, R54; that the crossing carries each zone's highest current of the slot, in mA, is the model's choice, assumption 10). -/
def Obligations.CrossingBeginsSlot : Prop :=
  ∀ (s : State) (rms : Nat) (peak : Quad Nat), s.phase = .running → s.heat.supply = .running → s.heat.slot + 1 < 50 →
    ∃ t, exec (.zeroCrossing rms peak) s = .next t ∧
      State.SameButStatus
        { s with
          heat :=
            { s.heat with
              slot := s.heat.slot + 1, lastCrossing := some s.now, supplyTimer := some (s.now + 1000)
              zones := t.heat.zones } }
        t ∧
      ∀ z : Fin 4,
        t.heat.zones.get z =
            { s.heat.zones.get z with out := (t.heat.zones.get z).out, drew := (t.heat.zones.get z).drew } ∧
          ((t.heat.zones.get z).drew = true ↔
            (s.heat.zones.get z).drew = true ∨
              ((s.heat.zones.get z).out = true ∧ 1000 * s.straps.rating ≤ peak.get z * s.heat.volts)) ∧
          (s.straps.zoneFitted z = false → (t.heat.zones.get z).out = (s.heat.zones.get z).out) ∧
          (s.straps.zoneFitted z = true →
            ((t.heat.zones.get z).out = true ↔
              (s.heat.zones.get z).state = .regulating ∧ (s.heat.zones.get z).cut = false ∧
                ∃ i, i < (s.heat.zones.get z).duty ∧ i < 50 ∧
                  s.heat.slot + 1 = ((6 * s.straps.station.val + 50 * z.val / s.straps.fitted) % 50 + i) % 50))

/-- ZERO_CROSSING while STARTING or LOST: a crossing 14 to 25 ms after the one before raises the run count by 1, and any other makes it
1; the tenth makes the supply RUNNING and starts a fresh window at slot 0, with the idle demand timer stopped. Each restarts the
supply timer at 100 ms (R43, R46, R69). -/
def Obligations.TenGoodCrossingsStartWindow : Prop :=
  ∀ (s : State) (rms : Nat) (peak : Quad Nat), s.phase = .running → s.heat.supply ≠ .running → s.heat.runCount < 10 →
    ((∃ last, s.heat.lastCrossing = some last ∧ 140 ≤ s.now - last ∧ s.now - last ≤ 250) ∧ s.heat.runCount = 9 →
      ∃ t, exec (.zeroCrossing rms peak) s = .next t ∧ t.heat.supply = .running ∧ t.heat.slot = 0 ∧ t.heat.runCount = 0 ∧
        t.load.idleTimer = none ∧ t.heat.lastCrossing = some s.now ∧ t.heat.supplyTimer = some (s.now + 1000) ∧
        t.load.factor = s.load.factor ∧ t.heat.pending = (s.heat.pending && s.settings.heat.isNone) ∧
        t.level = s.level ∧ t.feed = s.feed ∧ t.travel = s.travel ∧ t.rows = s.rows ∧ t.ring = s.ring) ∧
    ((∃ last, s.heat.lastCrossing = some last ∧ 140 ≤ s.now - last ∧ s.now - last ≤ 250) ∧ s.heat.runCount ≠ 0 ∧
        s.heat.runCount < 9 →
      ∃ t, exec (.zeroCrossing rms peak) s = .next t ∧
        State.SameButStatus
          { s with
            heat :=
              { s.heat with
                runCount := s.heat.runCount + 1, lastCrossing := some s.now
                supplyTimer := some (s.now + 1000) } }
          t) ∧
    (s.heat.runCount = 0 ∨ (∀ last, s.heat.lastCrossing = some last → s.now - last < 140 ∨ 250 < s.now - last) →
      ∃ t, exec (.zeroCrossing rms peak) s = .next t ∧
        State.SameButStatus
          { s with
            heat :=
              { s.heat with runCount := 1, lastCrossing := some s.now, supplyTimer := some (s.now + 1000) } } t)

/-- ZERO_CROSSING that begins a window, at a boundary and at a window start. The share is at most the own demand and at most the
capacity, at most the part of the capacity that the demand bears to the total when the total exceeds it, and the energy the window's
duties place is at most 50 times the share, in every state whose shed factor is at most 256. Each applies the HEAT page that waits and
settles the shed pair, sets each fitted zone's state and demand, forms the demand table, the total and the share and offers the DEMAND,
allocates the share in its order, loads the duties, sets the outputs for slot 0 and moves the start zone on in ROTATING; a window start
does so on the zones as they stand. A boundary first judges the window that ends: a fitted zone REGULATING and never cut, with a duty of
5 or more, has its open count at 0 when its current reached 10 % of rated in an on-slot, and otherwise one higher, and at 3 it trips
OPEN, which the open row marks (R39, R46, R48 to R52, R54, R58, R63 to R66, R68, R75; that the crossing carries each zone's highest
current of the slot, in mA, is the model's choice, assumption 10). -/
def Obligations.BoundaryBoundsShareAndEnergy : Prop :=
  (∀ (s : State) (rms : Nat) (peak : Quad Nat), s.phase = .running → s.load.factor ≤ 256 →
    ((s.heat.supply = .running ∧ 50 ≤ s.heat.slot + 1) ∨
      (s.heat.supply ≠ .running ∧ s.heat.runCount = 9 ∧
        ∃ last, s.heat.lastCrossing = some last ∧ 140 ≤ s.now - last ∧ s.now - last ≤ 250)) →
    ∃ t, exec (.zeroCrossing rms peak) s = .next t ∧ t.heat.supply = .running ∧ t.heat.slot = 0 ∧
      t.load.share ≤ t.load.ownDemand ∧
      (∀ page, t.heat.page = some page →
        t.load.share ≤ page.capacity ∧
          (page.capacity < t.load.total → t.load.share ≤ page.capacity * t.load.ownDemand / t.load.total)) ∧
      ((zones.filter s.straps.zoneFitted).map fun z => (t.heat.zones.get z).duty * s.straps.rating).sum ≤
        50 * t.load.share) ∧
  (∀ (s : State) (rms : Nat) (peak : Quad Nat), s.phase = .running → s.heat.supply ≠ .running → s.heat.runCount = 9 →
    (∃ last, s.heat.lastCrossing = some last ∧ 140 ≤ s.now - last ∧ s.now - last ≤ 250) →
    ∃ t, exec (.zeroCrossing rms peak) s = .next t ∧ s.BeginsWindow t s.heat.zones.get ∧ t.rows = s.rows) ∧
  (∀ (s : State) (rms : Nat) (peak : Quad Nat) (drew : Fin 4 → Bool), s.phase = .running → s.heat.supply = .running →
    50 ≤ s.heat.slot + 1 →
    (∀ z, drew z = true ↔
      (s.heat.zones.get z).drew = true ∨
        ((s.heat.zones.get z).out = true ∧ 1000 * s.straps.rating ≤ peak.get z * s.heat.volts)) →
    ∃ t, exec (.zeroCrossing rms peak) s = .next t ∧
      s.BeginsWindow t (fun z => (s.heat.zones.get z).openJudged (drew z)) ∧
      t.level = s.level ∧ t.feed = s.feed ∧ t.travel = s.travel ∧ t.ring = s.ring ∧ t.settings = s.settings ∧
      ((∀ z, s.straps.zoneFitted z = true →
          ((s.heat.zones.get z).openJudged (drew z)).state = (s.heat.zones.get z).state) → t.rows = s.rows) ∧
      ((∃ z, s.straps.zoneFitted z = true ∧
          ((s.heat.zones.get z).openJudged (drew z)).state ≠ (s.heat.zones.get z).state) →
        t.rows =
          { s.rows with
            openRow := s.rows.openRow.map fun r => { r with flags := { r.flags with tripSeen := true } } }))

/-- ZERO_CROSSING at a window boundary: under the page the window ran on, an RMS below floor(sag % × nominal voltage / 100) lowers the
shed factor F to max(32, F − max(1, floor(F / 8))), and any other raises it to min(256, F + 8); without a page it stays. The new F
is the one in the share of the same boundary, and stays between 32 and 256. A window start and a loss of supply leave F, and each
reset makes it 256. SAG-SHED is present after the boundary exactly when F is below 256 (R70, R71). -/
def Obligations.SagMovesShedFactor : Prop :=
  (∀ (s : State) (rms : Nat) (peak : Quad Nat), s.phase = .running → s.heat.supply = .running → 50 ≤ s.heat.slot + 1 →
    ∃ t, exec (.zeroCrossing rms peak) s = .next t ∧
      t.load.factor =
        (match s.heat.page with
          | none => s.load.factor
          | some page =>
            if rms < page.sagPercent * page.nominalVoltage / 100 then
              max 32 (s.load.factor - max 1 (s.load.factor / 8))
            else min 256 (s.load.factor + 8)) ∧
      (32 ≤ s.load.factor → s.load.factor ≤ 256 → 32 ≤ t.load.factor ∧ t.load.factor ≤ 256) ∧
      (∀ page, t.heat.page = some page → t.heating.draws = true →
        t.load.share =
          (if t.load.total ≤ page.capacity then t.load.ownDemand
            else page.capacity * t.load.ownDemand / t.load.total) * t.load.factor / 256) ∧
      (t.alarm .sagShed = true ↔ t.load.factor < 256)) ∧
  (∀ (s : State) (rms : Nat) (peak : Quad Nat), s.phase = .running → s.heat.supply ≠ .running →
    ∃ t, exec (.zeroCrossing rms peak) s = .next t ∧ t.load.factor = s.load.factor) ∧
  (∀ s : State, s.phase = .running → ∃ t, exec .supplyTimerExpiry s = .next t ∧ t.load.factor = s.load.factor) ∧
  (∀ (s : State) (c : Instr), s.phase = .running → (c = .restart ∨ c = .restartPinActive) →
    ∃ t, exec c s = .next t ∧ t.load.factor = 256) ∧
  (∀ (s : State) (since : Nat) (straps : BitVec 18), s.phase = .powerOn since → since + 500 ≤ s.now →
    ∃ t, exec (.powerOnResetRelease straps) s = .next t ∧ t.load.factor = 256)

/-- SUPPLY_TIMER_EXPIRY: from RUNNING the supply becomes LOST; every output goes off, every REGULATING zone becomes IDLE, every live duty
is 0 with cut cleared, the shed factor, the open counts, the trips and the rotation start zone stay. From STARTING it becomes LOST and no
zone changes. In both the heating state is NO-SUPPLY, the run count, the share and the own demand are 0, a waiting HEAT page is applied at
once, and the idle demand timer starts at 1000 ms. SHEDDING under a standing order becomes SHED with SHED-ACK offered at once, saying
NO-SUPPLY and no window; without an order the status becomes NONE; the rest of the shed pair stays. In LOST only the run count becomes 0.
In each case the supply timer stays stopped until the next crossing (R45, R58, R69, R78; that from STARTING no zone changes is assumption
35, and that the idle demand timer restarts there is assumption 22). -/
def Obligations.SupplyLossEndsWindow : Prop :=
  (∀ (s : State) (d : Nat), s.phase = .running → s.heat.supply ≠ .lost → s.heat.supplyTimer = some d → d ≤ s.now →
    ∃ t, exec .supplyTimerExpiry s = .next t ∧ t.heat.supply = .lost ∧ t.heating = .noSupply ∧ t.heat.runCount = 0 ∧
      t.heat.supplyTimer = none ∧ t.heat.rotationStart = s.heat.rotationStart ∧
      (∀ z, t.heat.zones.get z =
        (if s.heat.supply = .running then
          { s.heat.zones.get z with
            out := false, duty := 0, cut := false
            state := if (s.heat.zones.get z).state = .regulating then .idle else (s.heat.zones.get z).state }
        else s.heat.zones.get z)) ∧
      t.load.share = 0 ∧ t.load.ownDemand = 0 ∧ t.load.idleTimer = some (s.now + 10000) ∧ t.load.factor = s.load.factor ∧
      t.load.standing = s.load.standing ∧
      (s.load.standing = true ∧ s.load.status = .shedding →
        t.load.status = .shed ∧ t.load.ack = .waiting ∧
          t.line.queue.shedAck.newest = some (.shedAck ⟨.noSupply, false⟩)) ∧
      (¬(s.load.standing = true ∧ s.load.status = .shedding) →
        t.load.status = (if s.load.standing then s.load.status else .none) ∧ t.load.ack = s.load.ack ∧
          t.line.queue.shedAck = s.line.queue.shedAck) ∧
      (∀ held, s.heat.pending = true → s.settings.heat = some held →
        t.heat.page = some held.page ∧ t.heat.pending = false) ∧
      (s.heat.pending = false → t.heat.page = s.heat.page) ∧
      t.level = s.level ∧ t.feed = s.feed ∧ t.travel = s.travel ∧ t.rows = s.rows ∧ t.ring = s.ring) ∧
  (∀ (s : State) (d : Nat), s.phase = .running → s.heat.supply = .lost → s.heat.supplyTimer = some d → d ≤ s.now →
    ∃ t, exec .supplyTimerExpiry s = .next t ∧
      State.SameButStatus { s with heat := { s.heat with runCount := 0, supplyTimer := none } } t)

/-- MODE_HEATING: with no zone fitted it is refused NOT-FITTED. OFF taken in ON switches the mode and cuts every REGULATING zone, which
becomes IDLE with its output off, and leaves every other zone. A mode asked for that is in force changes nothing. Each sets the
last command outcome and raises the serial by 1 (R42, R168). -/
def Obligations.ModeHeatingJudged : Prop :=
  (∀ (s : State) (sender : Fin 16) (on : Bool), s.phase = .running → s.straps.fitted = 0 →
    ∃ t, exec (.modeHeating sender on) s = .next t ∧
      State.SameButStatus
        { s with
          sup :=
            { s.sup with
              outcome := some ⟨.mode, some .heating, sender, some .notFitted⟩, serial := s.sup.serial + 1 } } t) ∧
  (∀ (s : State) (sender : Fin 16), s.phase = .running → s.straps.fitted ≠ 0 → s.heat.mode = true →
    ∃ t, exec (.modeHeating sender false) s = .next t ∧
      State.SameButStatus
        { s with
          heat := { s.heat with mode := false, zones := t.heat.zones }
          sup :=
            { s.sup with outcome := some ⟨.mode, some .heating, sender, none⟩, serial := s.sup.serial + 1 } } t ∧
      ∀ z, t.heat.zones.get z =
        (if (s.heat.zones.get z).state = .regulating then
          { s.heat.zones.get z with state := .idle, cut := true, out := false }
        else s.heat.zones.get z)) ∧
  (∀ (s : State) (sender : Fin 16) (on : Bool), s.phase = .running → s.straps.fitted ≠ 0 → s.heat.mode = on →
    ∃ t, exec (.modeHeating sender on) s = .next t ∧
      State.SameButStatus
        { s with
          sup :=
            { s.sup with outcome := some ⟨.mode, some .heating, sender, none⟩, serial := s.sup.serial + 1 } } t)

/-- CLEAR_HEATING, and MODE_HEATING ON taken in OFF, which judges trips exactly alike: an OPEN or OVERCURRENT trip is always cleared, a
SENSOR trip when the status is VALID, an OVERTEMP trip when it is VALID and the temperature below 200 °C, and a LEAKAGE trip when
the input is inactive. A cleared zone becomes IDLE with open count 0 unless another condition trips it again at once; a zone that
is not cleared stays as it is. MODE_HEATING ON makes the mode ON, and CLEAR_HEATING leaves it; each is ACCEPTED. With no zone fitted
CLEAR_HEATING is refused NOT-FITTED (R42, R57, R168, R169). -/
def Obligations.ClearJudgesTrips : Prop :=
  (∀ (s : State) (sender : Fin 16), s.phase = .running → s.straps.fitted = 0 →
    ∃ t, exec (.clearHeating sender) s = .next t ∧
      State.SameButStatus
        { s with
          sup :=
            { s.sup with
              outcome := some ⟨.clear, some .heating, sender, some .notFitted⟩, serial := s.sup.serial + 1 } } t) ∧
  (∀ (s : State) (sender : Fin 16), s.phase = .running → s.straps.fitted ≠ 0 →
    ∀ c : Instr, c = .clearHeating sender ∨ (c = .modeHeating sender true ∧ s.heat.mode = false) →
    ∃ t, exec c s = .next t ∧ t.sup.serial = s.sup.serial + 1 ∧ t.load = s.load ∧ t.level = s.level ∧ t.feed = s.feed ∧
      t.heat = { s.heat with mode := t.heat.mode, zones := t.heat.zones } ∧
      (c = .clearHeating sender →
        t.heat.mode = s.heat.mode ∧ t.sup.outcome = some ⟨.clear, some .heating, sender, none⟩) ∧
      (c = .modeHeating sender true →
        t.heat.mode = true ∧ t.sup.outcome = some ⟨.mode, some .heating, sender, none⟩) ∧
      (∀ z, (s.straps.zoneFitted z = false ∨ (s.heat.zones.get z).state.isTripped = false →
          t.heat.zones.get z = s.heat.zones.get z) ∧
        (s.straps.zoneFitted z = true → ∀ cause, (s.heat.zones.get z).state = .tripped cause →
          ∀ clears : Bool,
            (clears = true ↔
              cause = .openElement ∨ cause = .overcurrent ∨ (cause = .sensor ∧ (s.heat.zones.get z).sensorFault = false) ∨
                (cause = .overtemp ∧ (s.heat.zones.get z).sensorFault = false ∧
                  ∃ v, (s.heat.zones.get z).temperature = some v ∧ v < 200) ∨
                (cause = .leakage ∧ s.pins.leakage = false)) →
            t.heat.zones.get z =
              (if clears = false then s.heat.zones.get z
                else if s.pins.leakage then
                  { s.heat.zones.get z with state := .tripped .leakage, cut := true, out := false, openCount := 0 }
                else if (s.heat.zones.get z).sensorFault then
                  { s.heat.zones.get z with state := .tripped .sensor, cut := true, out := false, openCount := 0 }
                else if 220 ≤ (s.heat.zones.get z).temperature.getD 0 then
                  { s.heat.zones.get z with state := .tripped .overtemp, cut := true, out := false, openCount := 0 }
                else { s.heat.zones.get z with state := .idle, openCount := 0 }))))

/-- SHED_ALL by the pair it finds, and RESTORE: SHED-ALL makes the order STANDING; where a window runs in ACTIVE or PARK-WARM the status
becomes SHEDDING, otherwise SHED with SHED-ACK offered at once; in STANDING with SHED and an acknowledgement WAITING or SENT the
SHED-ACK is offered again; in the other pairs with STANDING nothing changes. RESTORE ends a standing order, and the status at once
when no window runs. A bulletin of either kind with another target is echoed and does nothing else (R74, R77). -/
def Obligations.ShedOrdersByPair : Prop :=
  (∀ s : State, s.phase = .running → s.load.standing = false → s.load.status = .none → s.heat.supply = .running →
    s.heating.draws = true →
    ∃ t, exec .shedAll s = .next t ∧
      State.SameButStatus
        { s with load := { s.load with standing := true, status := .shedding, ack := .notDue } } t) ∧
  (∀ s : State, s.phase = .running → s.load.standing = false →
    (s.load.status = .shed ∨ (s.load.status = .none ∧ ¬(s.heat.supply = .running ∧ s.heating.draws = true))) →
    ∃ t, exec .shedAll s = .next t ∧
      State.SameButStatus
        (let u : State := { s with load := { s.load with standing := true, status := .shed, ack := .waiting } }
         u.offer (.shedAck ⟨u.heating, s.windowRuns⟩)) t) ∧
  (∀ s : State, s.phase = .running → s.load.standing = false → s.load.status = .shedding →
    ∃ t, exec .shedAll s = .next t ∧ State.SameButStatus { s with load := { s.load with standing := true } } t) ∧
  (∀ s : State, s.phase = .running → s.load.standing = true → s.load.status = .shed →
    (s.load.ack = .waiting ∨ s.load.ack = .sent) →
    ∃ t, exec .shedAll s = .next t ∧
      State.SameButStatus
        (({ s with load := { s.load with ack := .waiting } } : State).offer (.shedAck ⟨s.heating, s.windowRuns⟩)) t) ∧
  (∀ s : State, s.phase = .running → s.load.standing = true →
    (s.load.status = .shedding ∨ (s.load.status = .shed ∧ s.load.ack = .awaitingDemand)) →
    ∃ t, exec .shedAll s = .next t ∧ State.SameButStatus s t) ∧
  (∀ s : State, s.phase = .running → s.load.standing = true →
    ∃ t, exec .restore s = .next t ∧
      State.SameButStatus
        { s with
          load :=
            { s.load with
              standing := false, ack := .notDue
              status := if s.heat.supply = .running then s.load.status else .none } } t) ∧
  (∀ s : State, s.phase = .running → s.load.standing = false →
    ∃ t, exec .restore s = .next t ∧ State.SameButStatus s t) ∧
  (∀ (s : State) (bytes : List Byte) (b : Bulletin), s.phase = .running → readBulletin bytes = some b →
    8 ≤ b.sender.val → (b.kind = 1 ∨ b.kind = 2) → b.target ≠ s.straps.station.val → b.target ≠ 15 →
    ∃ t, exec (.bulletinReceived bytes) s = .next t ∧
      State.SameButStatus { s with line := { s.line with echoed := true } } t)

/-- SEND_COMPLETE of a DEMAND and of a SHED-ACK: in AWAITING-DEMAND the first sent DEMAND that carried demand 0 brings the SHED-ACK,
offered with the heating state and whether a window runs, and no other does; a sent SHED-ACK makes the acknowledgement SENT
while the order is STANDING, and leaves it otherwise (R76). -/
def Obligations.ShedAckFollowsDemand : Prop :=
  (∀ (s : State) (c : DemandContent) (p : Nat) (f : Option Content), s.phase = .running →
    s.line.queue.get .demand = .inFlight (.demand c) p f → s.line.queue.OnlyFlying .demand →
    ∃ t, exec (.sendComplete .success) s = .next t ∧
      (s.load.ack = .awaitingDemand ∧ c.demand = 0 →
        t.load = { s.load with ack := .waiting } ∧
          t.line.queue.shedAck.newest = some (.shedAck ⟨s.heating, s.windowRuns⟩)) ∧
      (¬(s.load.ack = .awaitingDemand ∧ c.demand = 0) →
        t.load = s.load ∧ t.line.queue.shedAck = s.line.queue.shedAck)) ∧
  (∀ (s : State) (c : ShedAckContent) (p : Nat) (f : Option Content), s.phase = .running →
    s.line.queue.get .shedAck = .inFlight (.shedAck c) p f → s.line.queue.OnlyFlying .shedAck →
    ∃ t, exec (.sendComplete .success) s = .next t ∧
      t.load = { s.load with ack := if s.load.standing then .sent else s.load.ack })

/-! ## Levelling -/

/-- GRADE_SLOPE_READING and GRADE_SLOPE_SILENCE_EXPIRY at a levelling station: a reading of −1000 to +1000 is stored with status VALID;
any other sets FAULT and keeps the last one; each restarts the silence timer at 200 ms, and its expiry sets FAULT and leaves it
stopped. A fault of the mode's own sensor in AUTO adds SENSOR to the hold causes, and an ACTIVE side goes to HOLD with no coil
energised. Another station reads neither sensor (R81, R83, R84). -/
def Obligations.LevellingSensorsJudged : Prop :=
  (∀ (s : State) (sensor : LevellingSensor) (v : Int), s.phase = .running → s.levelling = true → -1000 ≤ v → v ≤ 1000 →
    ∃ t, exec (.gradeSlopeReading sensor (.value v)) s = .next t ∧
      State.SameButStatus { s with level := s.level.setSensor sensor ⟨some v, false, some (s.now + 2000)⟩ } t) ∧
  (∀ (s : State) (sensor : LevellingSensor) (c : Instr) (timer : Option Nat), s.phase = .running → s.levelling = true →
    ((∃ r, c = .gradeSlopeReading sensor r ∧ (∀ v, r = .value v → v < -1000 ∨ 1000 < v) ∧ timer = some (s.now + 2000)) ∨
      (c = .gradeSlopeSilenceExpiry sensor ∧ timer = none ∧ ∃ d, (s.level.sensor sensor).timer = some d ∧ d ≤ s.now)) →
    ∃ t, exec c s = .next t ∧
      t.level.sensor sensor = ⟨(s.level.sensor sensor).last, true, timer⟩ ∧
      (∀ other, other ≠ sensor → t.level.sensor other = s.level.sensor other) ∧
      State.SameButStatus { s with level := t.level } t ∧
      (((s.level.mode = .autoGrade ∧ sensor = .grade) ∨ (s.level.mode = .autoSlope ∧ sensor = .slope)) →
        t.level.causes.sensor = true ∧
          (s.level.condition = .active → t.level.condition = .hold ∧ t.level.driver.energised = none) ∧
          (s.level.condition ≠ .active → t.level.condition = s.level.condition)) ∧
      (¬((s.level.mode = .autoGrade ∧ sensor = .grade) ∨ (s.level.mode = .autoSlope ∧ sensor = .slope)) →
        t.level = s.level.setSensor sensor ⟨(s.level.sensor sensor).last, true, timer⟩)) ∧
  (∀ (s : State) (sensor : LevellingSensor) (r : Reading), s.phase = .running → s.levelling = false →
    ∃ t, exec (.gradeSlopeReading sensor r) s = .next t ∧ State.SameButStatus s t)

/-- PERIOD_START of a side in AUTO applies the LEVEL page that waits, captures a reference not yet captured from a VALID sensor, chooses
the partner, the lowest-numbered station whose FRESH HEIGHT reports the opposite side, and judges the hold causes afresh: SENSOR, CONFLICT
and PARTNER. A side that is ACTIVE or in HOLD is then in HOLD with a cause and ACTIVE without, and one that goes to HOLD has no coil
energised; FROZEN and SETTLING stay. A side then ACTIVE, in RUN and PAVING with no move of a settle end under way, hands the driver a
pulse of min(100, Pmin + floor(K × (|e| − db) / 10)) ms toward its reference when |e| exceeds the deadband, and a neutral request within
it, with the deadband and the gain of its mode and the page applied. An AUTO side out of PAVING, or out of RUN, with no move of a settle
end under way, has no coil energised after a period start. Outside AUTO the driver is left as it is. Each runs the next period of 100 ms,
from the time that came (R88 to R90, R92, R93, R101; assumption 2). -/
def Obligations.PeriodStartRunsControlLaw : Prop :=
  (∀ (s : State) (d : Nat) (page : Option LevelPage) (sensor : Sensor) (partner : Option SideMode), s.phase = .running →
    s.level.periodTimer = some d → d ≤ s.now → isAuto s.level.mode = true →
    page =
      (if s.level.pending then (match s.settings.level with | some held => some held.page | none => s.level.page)
      else s.level.page) →
    sensor = (if s.level.mode = .autoSlope then s.level.slope else s.level.grade) →
    partner = s.partnerSlot.map (·.2.mode) →
    ∃ t, exec .periodStart s = .next t ∧ t.level.periodTimer = some (d + 1000) ∧ t.level.page = page ∧
      t.level.pending = (s.level.pending && s.settings.level.isNone) ∧ t.level.mode = s.level.mode ∧
      t.level.partner = s.partnerSlot.map (·.1) ∧
      (∀ v, s.level.captured = false → sensor.fault = false → sensor.last = some v →
        t.level.captured = true ∧
          t.level.gradeRef = (if s.level.mode = .autoSlope then s.level.gradeRef else v) ∧
          t.level.slopeRef = (if s.level.mode = .autoSlope then v else s.level.slopeRef)) ∧
      (s.level.captured = true ∨ sensor.fault = true →
        t.level.captured = s.level.captured ∧ t.level.gradeRef = s.level.gradeRef ∧
          t.level.slopeRef = s.level.slopeRef) ∧
      (t.level.causes.sensor = true ↔ sensor.fault = true ∨ t.level.captured = false) ∧
      (t.level.causes.conflict = true ↔ s.level.mode = .autoSlope ∧ partner = some .autoSlope) ∧
      (t.level.causes.partner = true ↔
        s.level.mode = .autoSlope ∧ partner ≠ some .autoGrade ∧ partner ≠ some .autoSlope) ∧
      t.level.condition =
        (if s.level.condition = .active ∨ s.level.condition = .hold then
          if t.level.causes = ⟨false, false, false⟩ then .active else .hold
        else s.level.condition) ∧
      (s.level.condition = .active → t.level.condition = .hold → t.level.driver.energised = none ∧ t.level.redo = false) ∧
      (∀ (p : LevelPage) (v : Int), t.level.condition = .active → s.level.redo = false → s.sup.station = .run →
        s.travel.state = .paving → page = some p → sensor.last = some v →
        t.level.driver =
          (let e := (if s.level.mode = .autoSlope then t.level.slopeRef else t.level.gradeRef) - v
           let deadband := if s.level.mode = .autoSlope then p.slopeDeadband else p.gradeDeadband
           let gain := if s.level.mode = .autoSlope then p.slopeGain else p.gradeGain
           if e.natAbs ≤ deadband then s.level.driver.neutralRequest (10 * p.deadTime) s.now
           else
             s.level.driver.request
               ⟨if 0 < e then .raise else .lower, .auto,
                 .until (s.now + 10 * min 100 (p.minPulse + gain * (e.natAbs - deadband) / 10))⟩
               (10 * p.deadTime) s.now))) ∧
  (∀ (s : State) (n : Fin 8) (c : HeightContent),
    s.partnerSlot = some (n, c) ↔
      (∃ since, (s.line.peers.get n).height = .fresh c since) ∧ c.side ≠ s.straps.side ∧
        ∀ (m : Fin 8) (other : HeightContent) (since : Nat), m < n → (s.line.peers.get m).height = .fresh other since →
          other.side = s.straps.side) ∧
  (∀ (s : State) (d : Nat), s.phase = .running → s.level.periodTimer = some d → d ≤ s.now → isAuto s.level.mode = true →
    s.level.redo = false → (s.travel.state ≠ .paving ∨ s.sup.station ≠ .run) →
    ∃ t, exec .periodStart s = .next t ∧ t.level.periodTimer = some (d + 1000) ∧ t.level.driver.energised = none ∧
      t.level.mode = s.level.mode ∧ t.travel = s.travel ∧ t.heat = s.heat ∧ t.load = s.load ∧ t.feed = s.feed ∧
      t.rows = s.rows ∧ t.ring = s.ring ∧ t.settings = s.settings) ∧
  (∀ (s : State) (d : Nat), s.phase = .running → s.level.periodTimer = some d → d ≤ s.now →
    isAuto s.level.mode = false → s.level.pending = false →
    ∃ t, exec .periodStart s = .next t ∧
      State.SameButStatus
        { s with
          level := { s.level with periodTimer := some (d + 1000), partner := s.partnerSlot.map (·.1) } } t)

/-- PULSE_END and DEAD_TIME_EXPIRY: at the end time of a running pulse its coil goes off and the driver goes to DEAD-TIME with the
opposite coil blocked for the dead time, or to NEUTRAL when that is 0; at the dead-time expiry a waiting pulse whose end time is still to
come, or that is timed by a length, energises its coil, and otherwise the driver is NEUTRAL. A pulse request whose end time is still to
come, or that is timed by a length, comes on at once, replaces the running pulse, reverses through DEAD-TIME, or waits, by the driver's
state and the coil that is blocked; one whose end time is past is a neutral request (R94 to R96). That with a dead time of 0 a reversal
comes on at once is the model's choice (assumption 13). -/
def Obligations.ValveDriverFollowsTable : Prop :=
  (∀ (s : State) (p : Pulse), s.phase = .running → s.level.driver = .driving p → p.endAt ≤ s.now →
    ∃ t, exec .pulseEnd s = .next t ∧
      State.SameButStatus
        { s with
          level :=
            { s.level with
              redo := false
              driver :=
                (let deadTime :=
                    match s.level.page with
                    | some page => 10 * page.deadTime
                    | none => 5000
                 if deadTime = 0 then .neutral
                 else .dead (.one (opposite p.direction)) (some (s.now + deadTime)) none) } }
        t) ∧
  (∀ (s : State) (b : Blocked) (d : Nat) (w : Option Request), s.phase = .running →
    s.level.driver = .dead b (some d) w → d ≤ s.now →
    ∃ t, exec .deadTimeExpiry s = .next t ∧
      State.SameButStatus
        { s with
          level :=
            { s.level with
              driver :=
                match w with
                | none => .neutral
                | some ⟨direction, origin, .until e⟩ =>
                  if e ≤ s.now then .neutral else .driving ⟨direction, origin, e⟩
                | some ⟨direction, origin, .length n⟩ => .driving ⟨direction, origin, s.now + n⟩ } }
        t) ∧
  (∀ (driver : Driver) (r : Request) (deadTime now : Nat), (∀ e, r.timing = .until e → now < e) →
    ∀ on : Driver,
      on = .driving ⟨r.direction, r.origin, match r.timing with | .until e => e | .length n => now + n⟩ →
      driver.request r deadTime now =
        (match driver with
          | .neutral => on
          | .driving p =>
            if p.direction = r.direction ∨ deadTime = 0 then on
            else .dead (.one (opposite p.direction)) (some (now + deadTime)) (some r)
          | .dead .both timer _ => .dead .both timer (some r)
          | .dead (.one coil) timer _ => if coil = r.direction then .dead (.one coil) timer (some r) else on)) ∧
  (∀ (driver : Driver) (r : Request) (deadTime now e : Nat), r.timing = .until e → e ≤ now →
    driver.request r deadTime now = driver.neutralRequest deadTime now ∧
      driver.neutralRequest deadTime now =
        (match driver with
          | .neutral => .neutral
          | .driving p =>
            if deadTime = 0 then .neutral else .dead (.one (opposite p.direction)) (some (now + deadTime)) none
          | .dead blocked timer (some ⟨direction, .jog, timing⟩) => .dead blocked timer (some ⟨direction, .jog, timing⟩)
          | .dead blocked timer _ => .dead blocked timer none))

/-- MODE_LEVELLING, judged in the order of R85: refused NOT-FITTED or STRAPPED-OFF at a station that levels no side, PARKED and NO-PAGE
for AUTO; accepted with nothing changed for the present mode; a change to OFF or MANUAL leaves no coil energised, empties the causes and
discards the record and keeps the references. A change to an AUTO mode leaves no coil energised, captures the mode's reference from its
sensor when that is VALID and keeps it otherwise, judges the hold causes, and goes to HOLD with a cause and to ACTIVE without; while
FROZEN or SETTLING it discards the record instead and leaves the condition and the references (R85 to R88, R113, R168). -/
def Obligations.ModeLevellingJudged : Prop :=
  (∀ (s : State) (sender : Fin 16) (m : SideMode) (reason : Reason), s.phase = .running →
    ((s.levelling = false ∧ reason = (if s.straps.towStrap then .strappedOff else .notFitted)) ∨
      (s.levelling = true ∧ isAuto m = true ∧ s.sup.station ≠ .run ∧ reason = .parked) ∨
      (s.levelling = true ∧ isAuto m = true ∧ s.sup.station = .run ∧ s.settings.level = none ∧ reason = .noPage)) →
    ∃ t, exec (.modeLevelling sender m) s = .next t ∧
      State.SameButStatus
        { s with
          sup :=
            { s.sup with
              outcome := some ⟨.mode, some .levelling, sender, some reason⟩, serial := s.sup.serial + 1 } } t) ∧
  (∀ (s : State) (sender : Fin 16), s.phase = .running → s.levelling = true →
    (isAuto s.level.mode = false ∨ (s.sup.station = .run ∧ s.settings.level.isSome = true)) →
    ∃ t, exec (.modeLevelling sender s.level.mode) s = .next t ∧
      State.SameButStatus
        { s with
          sup :=
            { s.sup with
              outcome := some ⟨.mode, some .levelling, sender, none⟩, serial := s.sup.serial + 1 } } t) ∧
  (∀ (s : State) (sender : Fin 16) (m : SideMode), s.phase = .running → s.levelling = true → isAuto m = false →
    m ≠ s.level.mode →
    ∃ t, exec (.modeLevelling sender m) s = .next t ∧ t.sup.outcome = some ⟨.mode, some .levelling, sender, none⟩ ∧
      t.level =
        { s.level with
          mode := m, condition := .none, causes := ⟨false, false, false⟩, resume := none, settleMark := none
          settleCapture := false, redo := false, driver := t.level.driver } ∧
      t.level.driver.energised = none) ∧
  (∀ (s : State) (sender : Fin 16) (m : SideMode) (sensor : Sensor) (partner : Option SideMode), s.phase = .running →
    s.levelling = true → s.sup.station = .run → s.settings.level.isSome = true → isAuto m = true → m ≠ s.level.mode →
    s.level.condition ≠ .frozen → s.level.condition ≠ .settling →
    sensor = (if m = .autoSlope then s.level.slope else s.level.grade) →
    partner = s.partnerSlot.map (·.2.mode) →
    ∃ t, exec (.modeLevelling sender m) s = .next t ∧
      t.sup.outcome = some ⟨.mode, some .levelling, sender, none⟩ ∧ t.sup.serial = s.sup.serial + 1 ∧
      t.level.mode = m ∧ t.level.partner = s.partnerSlot.map (·.1) ∧ t.level.driver.energised = none ∧
      (∀ v, sensor.fault = false → sensor.last = some v →
        t.level.captured = true ∧
          t.level.gradeRef = (if m = .autoSlope then s.level.gradeRef else v) ∧
          t.level.slopeRef = (if m = .autoSlope then v else s.level.slopeRef)) ∧
      (sensor.fault = true →
        t.level.captured = false ∧ t.level.gradeRef = s.level.gradeRef ∧ t.level.slopeRef = s.level.slopeRef) ∧
      (t.level.causes.sensor = true ↔ sensor.fault = true ∨ t.level.captured = false) ∧
      (t.level.causes.conflict = true ↔ m = .autoSlope ∧ partner = some .autoSlope) ∧
      (t.level.causes.partner = true ↔
        m = .autoSlope ∧ partner ≠ some .autoGrade ∧ partner ≠ some .autoSlope) ∧
      t.level.condition =
        (if t.level.causes = ⟨false, false, false⟩ then .active else .hold)) ∧
  (∀ (s : State) (sender : Fin 16) (m : SideMode), s.phase = .running → s.levelling = true → s.sup.station = .run →
    s.settings.level.isSome = true → isAuto m = true → m ≠ s.level.mode →
    (s.level.condition = .frozen ∨ s.level.condition = .settling) →
    ∃ t, exec (.modeLevelling sender m) s = .next t ∧
      t.sup.outcome = some ⟨.mode, some .levelling, sender, none⟩ ∧
      t.level =
        { s.level with
          mode := m, resume := none, captured := false, settleCapture := true, redo := false
          causes := { s.level.causes with sensor := true }, driver := t.level.driver } ∧
      t.level.driver.energised = none)

/-- JOG, judged in the order of R99: refused NOT-FITTED or STRAPPED-OFF, PARKED, and SIDE-OFF; accepted in AUTO it shifts the captured
reference by 10 or 5, and a valid record's with it, clamped to ±1000, and drives no coil; accepted in MANUAL it hands the driver a
pulse request of its length, clamped to 20 to 1000 ms (R98, R99, R168). -/
def Obligations.JogJudged : Prop :=
  (∀ (s : State) (sender : Fin 16) (d : Direction) (n : Nat) (reason : Reason), s.phase = .running →
    ((s.levelling = false ∧ reason = (if s.straps.towStrap then .strappedOff else .notFitted)) ∨
      (s.levelling = true ∧ s.sup.station ≠ .run ∧ reason = .parked) ∨
      (s.levelling = true ∧ s.sup.station = .run ∧ s.level.mode = .off ∧ reason = .sideOff)) →
    ∃ t, exec (.jog sender d n) s = .next t ∧
      State.SameButStatus
        { s with
          sup := { s.sup with outcome := some ⟨.jog, none, sender, some reason⟩, serial := s.sup.serial + 1 } } t) ∧
  (∀ (s : State) (sender : Fin 16) (d : Direction) (n : Nat), s.phase = .running → s.levelling = true →
    s.sup.station = .run → isAuto s.level.mode = true → s.level.captured = true →
    ∃ t, exec (.jog sender d n) s = .next t ∧
      (let step : Int := if s.level.mode = .autoSlope then 5 else 10
       let shift := fun v : Int => max (-1000) (min 1000 (if d = .raise then v + step else v - step))
       State.SameButStatus
        { s with
          sup := { s.sup with outcome := some ⟨.jog, none, sender, none⟩, serial := s.sup.serial + 1 }
          level :=
            { s.level with
              gradeRef := if s.level.mode = .autoSlope then s.level.gradeRef else shift s.level.gradeRef
              slopeRef := if s.level.mode = .autoSlope then shift s.level.slopeRef else s.level.slopeRef
              resume := s.level.resume.map fun r => { r with reference := r.reference.map shift } } }
        t)) ∧
  (∀ (s : State) (sender : Fin 16) (d : Direction) (n : Nat), s.phase = .running → s.levelling = true →
    s.sup.station = .run → isAuto s.level.mode = true → s.level.captured = false →
    ∃ t, exec (.jog sender d n) s = .next t ∧
      State.SameButStatus
        { s with
          sup := { s.sup with outcome := some ⟨.jog, none, sender, none⟩, serial := s.sup.serial + 1 } } t) ∧
  (∀ (s : State) (sender : Fin 16) (d : Direction) (n : Nat), s.phase = .running → s.levelling = true →
    s.sup.station = .run → s.level.mode = .manual →
    ∃ t, exec (.jog sender d n) s = .next t ∧
      State.SameButStatus
        { s with
          sup := { s.sup with outcome := some ⟨.jog, none, sender, none⟩, serial := s.sup.serial + 1 }
          level :=
            { s.level with
              driver :=
                s.level.driver.request ⟨d, .jog, .length (10 * max 20 (min 1000 n))⟩
                  (match s.level.page with
                    | some page => 10 * page.deadTime
                    | none => 5000)
                  s.now } }
        t)

/-- ENCODER_CHANGE by which travel returns to PAVING makes a FROZEN side SETTLING, with the settle mark at the chainage of the return and
the rest of the side as it was; a forward centimetre short of the settle distance leaves the side. One
that completes a forward pulse and with it the settle: the first 1 cm by which a PAVING paver reaches the settle
distance past the settle mark ends it. The reference is set by the first case that applies: captured from the mode's sensor at a
settle capture, the record's reference under SAVED, captured under CURRENT. The condition is HOLD with a hold cause and ACTIVE
without. A pending move is issued under SAVED and REDO into an ACTIVE side at no settle capture. The record, the settle mark and the
settle capture are gone. A settle with no record, which a change of AUTO mode leaves, ends likewise (R108 to R111, R113). -/
def Obligations.SettleEndResumesSide : Prop :=
  (∀ (s : State) (travelPage : TravelPage), s.phase = .running → s.straps.encoder = true → s.levelling = true →
    s.travel.page = some travelPage → s.travel.steps = 3 → travelPage.pulsesPerMetre ≤ s.travel.remainder + 100 →
    s.travel.chainage < 2147483647 → (s.travel.state = .stopped ∨ s.travel.state = .reversing) →
    s.travel.mark + 5 ≤ s.travel.chainage + 1 → s.level.condition = .frozen →
    ∃ t, exec (.encoderChange (s.pins.encoder + 1)) s = .next t ∧ t.travel.state = .paving ∧
      t.level = { s.level with condition := .settling, settleMark := some (s.travel.chainage + 1) }) ∧
  (∀ (s : State) (travelPage : TravelPage) (mark : Nat), s.phase = .running → s.straps.encoder = true →
    s.travel.page = some travelPage → s.travel.steps = 3 → travelPage.pulsesPerMetre ≤ s.travel.remainder + 100 →
    s.travel.chainage < 2147483647 → s.travel.state = .paving → s.travel.mark ≤ s.travel.chainage + 1 →
    s.level.condition = .settling → s.level.settleMark = some mark →
    s.travel.chainage + 1 < mark + s.level.settleDistance →
    ∃ t, exec (.encoderChange (s.pins.encoder + 1)) s = .next t ∧ t.level = s.level) ∧
  (∀ (s : State) (travelPage : TravelPage) (mark : Nat) (record : Option ResumeRecord), s.phase = .running →
    s.straps.encoder = true → s.levelling = true → s.travel.page = some travelPage → s.travel.steps = 3 →
    travelPage.pulsesPerMetre ≤ s.travel.remainder + 100 → s.travel.chainage < 2147483647 → s.travel.state = .paving →
    s.travel.mark ≤ s.travel.chainage + 1 → s.level.condition = .settling → s.level.settleMark = some mark →
    mark + s.level.settleDistance ≤ s.travel.chainage + 1 → isAuto s.level.mode = true → s.level.resume = record →
    ∀ (sensor : Sensor) (policy : ResumePolicy) (choice : RestartChoice),
      sensor = (if s.level.mode = .autoSlope then s.level.slope else s.level.grade) →
      (match s.level.page with
        | some page => policy = page.resumePolicy ∧ choice = page.restartChoice
        | none => policy = .saved ∧ choice = .drop) →
      ∃ t, exec (.encoderChange (s.pins.encoder + 1)) s = .next t ∧ t.level.mode = s.level.mode ∧
        t.level.resume = none ∧ t.level.settleMark = none ∧ t.level.settleCapture = false ∧
        t.level.causes = s.level.causes ∧
        t.level.condition = (if s.level.causes = ⟨false, false, false⟩ then .active else .hold) ∧
        (∀ reference : Int,
          ((s.level.settleCapture = true ∨ policy = .current) ∧ sensor.fault = false ∧ sensor.last = some reference) ∨
            (s.level.settleCapture = false ∧ policy = .saved ∧ ∃ r, record = some r ∧ r.reference = some reference) →
          t.level.captured = true ∧
            (if s.level.mode = .autoSlope then t.level.slopeRef else t.level.gradeRef) = reference) ∧
        ((s.level.settleCapture = true ∨ policy = .current) ∧ sensor.fault = true → t.level.captured = false) ∧
        (s.level.settleCapture = false ∧ policy = .saved ∧ (∀ r, record = some r → r.reference = none) →
          t.level.captured = s.level.captured ∧ t.level.gradeRef = s.level.gradeRef ∧
            t.level.slopeRef = s.level.slopeRef) ∧
        (∀ r direction n, record = some r → r.move = some (direction, n) → policy = .saved → choice = .redo →
          s.level.settleCapture = false → s.level.causes = ⟨false, false, false⟩ →
          t.level.redo = true ∧
            t.level.driver =
              s.level.driver.request ⟨direction, .auto, .length (10 * n)⟩ s.level.deadTime s.now) ∧
        (s.level.causes ≠ ⟨false, false, false⟩ → t.level.driver.energised = none ∧ t.level.redo = false))

/-! ## Feed -/

/-- FEED_LEVEL_READING and FEED_SENSOR_SILENCE_EXPIRY: of a sensor the station reads, a reading of 0 to 100 % is stored with status
VALID, any other sets FAULT and keeps the last one, each restarting the silence timer at 300 ms, and its expiry sets FAULT and
leaves it stopped; a sensor the station does not read changes nothing (R116, R118). -/
def Obligations.FeedSensorsJudged : Prop :=
  (∀ (s : State) (sensor : FeedSensor) (r : Reading), s.phase = .running → s.readsFeedSensor sensor = true →
    ∃ t, exec (.feedLevelReading sensor r) s = .next t ∧
      State.SameButStatus
        { s with
          feed :=
            s.feed.setSensor sensor
              (match r with
                | .value v =>
                  if 0 ≤ v ∧ v ≤ 100 then ⟨some v, false, some (s.now + 3000)⟩
                  else ⟨(s.feed.sensor sensor).last, true, some (s.now + 3000)⟩
                | .openCircuit => ⟨(s.feed.sensor sensor).last, true, some (s.now + 3000)⟩) }
        t) ∧
  (∀ (s : State) (sensor : FeedSensor) (r : Reading), s.phase = .running → s.readsFeedSensor sensor = false →
    ∃ t, exec (.feedLevelReading sensor r) s = .next t ∧ State.SameButStatus s t) ∧
  (∀ (s : State) (sensor : FeedSensor) (d : Nat), s.phase = .running → (s.feed.sensor sensor).timer = some d → d ≤ s.now →
    ∃ t, exec (.feedSensorSilenceExpiry sensor) s = .next t ∧
      State.SameButStatus
        { s with feed := s.feed.setSensor sensor ⟨(s.feed.sensor sensor).last, true, none⟩ } t)

/-- MODE_CONVEYOR_AUGER, judged in the order of R119: refused NOT-FITTED or STRAPPED-OFF at a station that is no feed owner, PARKED for
MANUAL and AUTO while parked, NO-PAGE for AUTO; accepted it changes the drive named by the table of R120 and leaves the other, the
MANUAL command clamped to 1000 (R119, R120, R168). -/
def Obligations.ModeDriveJudged : Prop :=
  (∀ (s : State) (sender : Fin 16) (d : Drive) (m : DriveMode) (n : Nat) (reason : Reason), s.phase = .running →
    ((s.owner = false ∧ reason = (if s.straps.ownerStrap then .strappedOff else .notFitted)) ∨
      (s.owner = true ∧ m ≠ .off ∧ (s.sup.station = .park ∨ s.sup.station = .parkInquiry) ∧ reason = .parked) ∨
      (s.owner = true ∧ m = .auto ∧ s.sup.station ≠ .park ∧ s.sup.station ≠ .parkInquiry ∧ s.settings.feed = none ∧
        reason = .noPage)) →
    ∃ t, exec (.modeConveyorAuger sender d m n) s = .next t ∧
      State.SameButStatus
        { s with
          sup :=
            { s.sup with
              outcome := some ⟨.mode, some (driveFunction d), sender, some reason⟩, serial := s.sup.serial + 1 } } t) ∧
  (∀ (s : State) (sender : Fin 16) (d : Drive) (m : DriveMode) (n : Nat), s.phase = .running → s.owner = true →
    (m = .off ∨ (s.sup.station ≠ .park ∧ s.sup.station ≠ .parkInquiry ∧ (m = .auto → s.settings.feed.isSome = true))) →
    ∃ t, exec (.modeConveyorAuger sender d m n) s = .next t ∧
      State.SameButStatus
        { s with
          sup :=
            { s.sup with
              outcome := some ⟨.mode, some (driveFunction d), sender, none⟩, serial := s.sup.serial + 1 }
          feed :=
            s.feed.setDrive d
              (let r := s.feed.drive d
               match m, r.mode with
                | .off, .off => r
                | .off, _ =>
                  { r with mode := .off, condition := .none, command := 0, stallTimer := none, holdTimer := none }
                | .manual, .off => { r with mode := .manual, condition := .driving, manualTarget := min 1000 n }
                | .manual, .manual => { r with manualTarget := min 1000 n }
                | .manual, .auto =>
                  { r with
                    mode := .manual, manualTarget := min 1000 n, holdTimer := none
                    condition :=
                      if r.condition = .sensorHold ∨ r.condition = .sensorRamp then .driving else r.condition }
                | .auto, .off => { r with mode := .auto, condition := .driving }
                | .auto, .manual => { r with mode := .auto }
                | .auto, .auto => r) }
        t)

/-- CONTROL_PERIOD: a waiting FEED page is applied, and the auger level is that of the outermost entry of the side level view, or the
tunnel sensor's when the view is empty. A drive in AUTO that is not STALLED and whose level is present is DRIVING, with the target
clamp(floor(Kff × v / 10) + Kl × (Lset − L), 0, 1000), where v is the speed in PAVING and 0 otherwise, and the auger's setpoint is
raised by the boost while the edge-cold used is set; without its level it goes from DRIVING to SENSOR-HOLD with the hold timer at
5000 ms and keeps its command, and in SENSOR-RAMP its target is 0. A drive in MANUAL has its manual target. Each such command moves by at
most 50 toward its target; a drive in OFF or STALLED stays. The timer runs another 100 ms, from the time that came (R121 to R124, R127,
R128; assumption 2). -/
def Obligations.ControlPeriodMovesDrives : Prop :=
  ∀ (s : State) (d : Nat) (page : Option FeedPage), s.phase = .running → s.feed.periodTimer = some d → d ≤ s.now →
    page = (if s.feed.pending then (match s.settings.feed with | some held => some held.page | none => s.feed.page)
      else s.feed.page) →
    ∃ t, exec .controlPeriod s = .next t ∧ t.feed.periodTimer = some (d + 1000) ∧ t.feed.page = page ∧
      t.feed.view = s.sideView ∧ State.SameButStatus { s with feed := t.feed } t ∧
      (∀ (drive : Drive) (level : Option Int) (setpoint target : Nat),
        (drive = .conveyor →
          level = s.feed.tunnel.reading ∧ ∀ p, page = some p → setpoint = p.conveyor.setpoint) →
        (drive = .auger →
          (∀ e, outermost s.sideView = some e →
            level = some (e.level : Int) ∧
              ∀ p, page = some p →
                setpoint = if e.edgeCold then min 95 (p.auger.setpoint + p.boost) else p.auger.setpoint) ∧
          (outermost s.sideView = none →
            level = s.feed.tunnel.reading ∧ ∀ p, page = some p → setpoint = p.auger.setpoint)) →
        (s.feed.drive drive).condition ≠ .stalled →
        (((s.feed.drive drive).mode = .manual ∧ target = (s.feed.drive drive).manualTarget) ∨
          ((s.feed.drive drive).mode = .auto ∧ ∃ p v, page = some p ∧ level = some v ∧
            (target : Int) =
              max 0 (min 1000
                ((((p.gains drive).kff * (if s.travel.state = .paving then s.travel.speed.toNat else 0) / 10 : Nat) : Int) +
                  (p.gains drive).kl * ((setpoint : Int) - v)))) ∨
          ((s.feed.drive drive).mode = .auto ∧ level = none ∧
            ((s.feed.drive drive).condition = .driving ∨ (s.feed.drive drive).condition = .sensorHold) ∧
            target = (s.feed.drive drive).command) ∨
          ((s.feed.drive drive).mode = .auto ∧ level = none ∧ (s.feed.drive drive).condition = .sensorRamp ∧
            target = 0)) →
        (t.feed.drive drive).mode = (s.feed.drive drive).mode ∧
          ((s.feed.drive drive).mode = .auto → level.isSome = true → page.isSome = true →
            (t.feed.drive drive).condition = .driving ∧ (t.feed.drive drive).holdTimer = none) ∧
          ((s.feed.drive drive).mode = .auto → level = none → (s.feed.drive drive).condition = .driving →
            (t.feed.drive drive).condition = .sensorHold ∧ (t.feed.drive drive).holdTimer = some (s.now + 50000)) ∧
          (t.feed.drive drive).command =
            (if (s.feed.drive drive).command + 50 < target then (s.feed.drive drive).command + 50
              else if target + 50 < (s.feed.drive drive).command then (s.feed.drive drive).command - 50
              else target)) ∧
      (∀ drive : Drive, (s.feed.drive drive).mode = .off ∨ (s.feed.drive drive).condition = .stalled →
        t.feed.drive drive = s.feed.drive drive)

/-- The timers and pulses of a drive. HOLD_TIMER_EXPIRY makes it SENSOR-RAMP. STALL_TIMER_EXPIRY makes it STALLED with command 0 and its
timers stopped, its mode kept, and FEED-STALL present. SPEED_CAPTURE_TIMEOUT makes the captured period none. DRIVE_SPEED_PULSE at
a feed owner sets the captured period to the time since the last pulse, 1 to 65535 in 0.1 ms, or to none, and restarts a running stall
timer; a pulse at time 0 after the last is ignored, and another station does not read it (R116, R125 to R127). -/
def Obligations.DriveTimersAndPulses : Prop :=
  (∀ (s : State) (drive : Drive) (d : Nat), s.phase = .running → (s.feed.drive drive).holdTimer = some d → d ≤ s.now →
    ∃ t, exec (.holdTimerExpiry drive) s = .next t ∧
      State.SameButStatus
        { s with
          feed := s.feed.setDrive drive { s.feed.drive drive with condition := .sensorRamp, holdTimer := none } } t) ∧
  (∀ (s : State) (drive : Drive) (d : Nat), s.phase = .running → (s.feed.drive drive).stallTimer = some d → d ≤ s.now →
    ∃ t, exec (.stallTimerExpiry drive) s = .next t ∧ t.alarm .feedStall = true ∧
      State.SameButStatus
        { s with
          feed :=
            s.feed.setDrive drive
              { s.feed.drive drive with
                condition := .stalled, command := 0, stallTimer := none, holdTimer := none } }
        t) ∧
  (∀ (s : State) (drive : Drive) (last : Nat), s.phase = .running → (s.feed.drive drive).lastPulse = some last →
    (s.feed.drive drive).period.isSome = true → last + 65535 ≤ s.now →
    ∃ t, exec (.speedCaptureTimeout drive) s = .next t ∧
      State.SameButStatus
        { s with feed := s.feed.setDrive drive { s.feed.drive drive with period := none } } t) ∧
  (∀ (s : State) (drive : Drive), s.phase = .running → s.owner = true →
    (∀ last, (s.feed.drive drive).lastPulse = some last → last < s.now) →
    ∃ t, exec (.driveSpeedPulse drive) s = .next t ∧
      State.SameButStatus
        { s with
          feed :=
            s.feed.setDrive drive
              { s.feed.drive drive with
                lastPulse := some s.now
                period :=
                  match (s.feed.drive drive).lastPulse with
                  | some last => if s.now - last ≤ 65535 then some (s.now - last) else none
                  | none => none
                stallTimer :=
                  match (s.feed.drive drive).stallTimer with
                  | some _ =>
                    some
                      (s.now +
                        match s.feed.page with
                        | some page => 10 * page.stallTime
                        | none => 50000)
                  | none => none } }
        t) ∧
  (∀ (s : State) (drive : Drive), s.phase = .running →
    (s.owner = false ∨ ∃ last, (s.feed.drive drive).lastPulse = some last ∧ s.now ≤ last) →
    ∃ t, exec (.driveSpeedPulse drive) s = .next t ∧ State.SameButStatus s t)

/-! ## Rows and the ring -/

/-- WIDTH_READING: on an EXTENSION section a reading of 0 to 300 cm, clamped to Wmax, is the current width from then on, and any other
reading, or an open sensor, leaves it. Before the first valid reading, and after each reset, it is Wmax. Another section does not
read its width sensor, and its width is always Wmax. A row formed at a close carries the current width (R3). -/
def Obligations.WidthFollowsExtensionSensor : Prop :=
  (∀ (s : State) (r : Reading), s.phase = .running →
    ∃ t, exec (.widthReading r) s = .next t ∧
      State.SameButStatus
        { s with
          identity :=
            { s.identity with
              width :=
                match r with
                | .value v =>
                  if s.straps.kind = .extension ∧ 0 ≤ v ∧ v ≤ 300 then some (min s.straps.maxWidth v.toNat)
                  else s.identity.width
                | .openCircuit => s.identity.width } }
        t ∧
      (∀ v : Int, r = .value v → s.straps.kind = .extension → 0 ≤ v → v ≤ 300 →
        t.width = min s.straps.maxWidth v.toNat) ∧
      ((∀ v : Int, r = .value v → v < 0 ∨ 300 < v) → t.width = s.width)) ∧
  (∀ s : State, s.identity.width = none ∨ s.straps.kind ≠ .extension → s.width = s.straps.maxWidth) ∧
  (∀ (s : State) (c : Instr), s.phase = .running → (c = .restart ∨ c = .restartPinActive) →
    ∃ t, exec c s = .next t ∧ t.straps = s.straps ∧ t.width = s.straps.maxWidth) ∧
  (∀ (s : State) (since : Nat) (straps : BitVec 18), s.phase = .powerOn since → since + 500 ≤ s.now →
    ∃ t, exec (.powerOnResetRelease straps) s = .next t ∧ t.width = (sampleStraps straps).maxWidth) ∧
  (∀ (s : State) (r : OpenRow) (page : RecordPage) (cause : CloseCause) (length : Nat),
    (s.formRow r page cause length).width = s.width)

/-- SWEEP and SCANNER_SILENCE_EXPIRY. A sweep taken while the scanner power is on restarts the silence timer at 500 ms when it is GOOD, and
sets shed seen in the open row while shedding is indicated. It counts in PAVING at or above the high-water mark: each cell takes its
spot when the sweep is GOOD and the spot lies in −20 to 300 °C, and the speed, the plate mean and the sweep are counted, to at most
65535. The expiry raises SCANNER-FAULT and marks the open row. A sweep is discarded while the power is off (R133, R135, R137). -/
def Obligations.SweepsFillOpenRow : Prop :=
  (∀ (s : State) (good : Bool) (spots : List Int) (r : OpenRow), s.phase = .running → s.straps.scanner = true →
    s.rows.scannerOn = true → s.rows.openRow = some r →
    ∃ t u, exec (.sweep good spots) s = .next t ∧
      State.SameButStatus
        { s with
          rows :=
            { s.rows with
              silence := if good then .running (s.now + 5000) else s.rows.silence, openRow := some u } } t ∧
      u.flags = { r.flags with shedSeen := r.flags.shedSeen || s.shedIndication } ∧
      (s.travel.state = .paving ∧ (∀ mark, s.rows.highWater = some mark → mark ≤ s.rows.lastChainage) →
        u.sweeps = min 65535 (r.sweeps + 1) ∧
          (r.speedCount < 65535 → u.speedSum = r.speedSum + s.travel.speed ∧ u.speedCount = r.speedCount + 1) ∧
          (∀ v, r.plateCount < 65535 → s.plateMean = some v →
            u.plateSum = r.plateSum + v ∧ u.plateCount = r.plateCount + 1) ∧
          (∀ (i : Nat) (c : Cell) (v : Int), r.cells[i]? = some c → spots[i]? = some v → c.count < 65535 →
            u.cells[i]? =
              some
                (if good = true ∧ -20 ≤ v ∧ v ≤ 300 then
                  ⟨c.sum + v, c.count + 1, some (match c.minimum with | some m => min v m | none => v)⟩
                else c)) ∧
          u = { u with start := r.start, finish := r.finish, epoch := r.epoch, stoppedTicks := r.stoppedTicks
                       stoppedSince := r.stoppedSince }) ∧
      (¬(s.travel.state = .paving ∧ ∀ mark, s.rows.highWater = some mark → mark ≤ s.rows.lastChainage) →
        u = { r with flags := u.flags })) ∧
  (∀ (s : State) (good : Bool) (spots : List Int), s.phase = .running → s.straps.scanner = true →
    s.rows.scannerOn = true → s.rows.openRow = none →
    ∃ t, exec (.sweep good spots) s = .next t ∧
      State.SameButStatus
        { s with rows := { s.rows with silence := if good then .running (s.now + 5000) else s.rows.silence } } t) ∧
  (∀ (s : State) (good : Bool) (spots : List Int), s.phase = .running →
    (s.straps.scanner = false ∨ s.rows.scannerOn = false) →
    ∃ t, exec (.sweep good spots) s = .next t ∧ State.SameButStatus s t) ∧
  (∀ (s : State) (d : Nat), s.phase = .running → s.rows.silence = .running d → d ≤ s.now →
    ∃ t, exec .scannerSilenceExpiry s = .next t ∧ t.alarm .scannerFault = true ∧
      State.SameButStatus
        { s with
          rows :=
            { s.rows with
              silence := .expired
              openRow := s.rows.openRow.map fun r => { r with flags := { r.flags with scannerFault := true } } } }
        t)

/-- ENCODER_CHANGE that carries the paver to the end of the open row, in whatever travel state it goes on in: the row closes STEP with
its whole length and is handed to the ring. A ring below 512 rows gives it the next sequence; a full one in WRAP gives it the next
sequence, removes the oldest row and raises RING-OVERWRITE; a full one in HOLD drops it. The edge is then judged, and the third cold or
warm edge in a row sets or clears the edge-cold flag. In PAVING and RUN the next row opens in the same handling at the end of this one;
otherwise none does, and the high-water mark and the continuation point are that end. A row formed at a close holds a mean or NO-READING
for each cell present at the current width, the lowest minimum, the count of cells colder than the threshold, the tag of the
lowest-numbered enabled mark window that overlaps it, its mean speed and plate mean, the screed height and its stopped time in whole
seconds (R138, R139, R143 to R147, R153; that a stretch of standing counts in clock ticks is assumption 36). -/
def Obligations.StepCloseCommitsRow : Prop :=
  (∀ (s : State) (travelPage : TravelPage) (page : RecordPage) (r : OpenRow) (row : Row), s.phase = .running →
    s.straps.encoder = true → s.travel.page = some travelPage → s.travel.steps = 3 →
    travelPage.pulsesPerMetre ≤ s.travel.remainder + 100 → s.travel.chainage < 2147483647 →
    (s.travel.ruled (s.travel.chainage + 1) 0 true).1 = s.travel.state → s.straps.scanner = true →
    s.rows.page = some page → s.rows.pending = false → 0 < page.rowStep → s.rows.openRow = some r →
    r.finish = s.travel.chainage + 1 → r.epoch = s.travel.epoch →
    row = s.formRow r page .step (r.finish - r.start) →
    ∃ t, exec (.encoderChange (s.pins.encoder + 1)) s = .next t ∧ t.travel.state = s.travel.state ∧
      t.ring = s.ring.handed row ∧
      (512 ≤ s.ring.rows.length → s.ring.mode = .wrap → t.alarm .ringOverwrite = true) ∧
      (row.ColdEdge page.coldThreshold →
        t.rows.coldRun = min 3 (s.rows.coldRun + 1) ∧ t.rows.warmRun = 0 ∧
          t.rows.edgeCold = (s.rows.edgeCold || decide (3 ≤ s.rows.coldRun + 1))) ∧
      (¬row.ColdEdge page.coldThreshold →
        t.rows.warmRun = min 3 (s.rows.warmRun + 1) ∧ t.rows.coldRun = 0 ∧
          t.rows.edgeCold = (s.rows.edgeCold && decide (s.rows.warmRun + 1 < 3))) ∧
      (s.travel.state = .paving ∧ s.sup.station = .run →
        ∃ u, t.rows.openRow = some u ∧ u.start = r.finish ∧
          u.finish = (r.finish / page.rowStep + 1) * page.rowStep ∧ u.epoch = r.epoch ∧ u.sweeps = 0 ∧
          t.rows.highWater = some r.finish ∧ t.rows.continuation = none) ∧
      (¬(s.travel.state = .paving ∧ s.sup.station = .run) →
        t.rows.openRow = none ∧ t.rows.highWater = some r.finish ∧ t.rows.continuation = some r.finish)) ∧
  (∀ (s : State) (r : OpenRow) (page : RecordPage) (cause : CloseCause) (length : Nat) (row : Row),
    row = s.formRow r page cause length →
    row.start = r.start ∧ row.length = length ∧ row.epoch = r.epoch ∧ row.cause = cause ∧ row.width = s.width ∧
      row.flags = r.flags ∧ row.stopped = min 65535 (r.stoppedFor s.now / 10000) ∧
      row.cells.length = min ((16 * s.width + s.straps.maxWidth - 1) / s.straps.maxWidth) r.cells.length ∧
      (∀ (i : Nat) (cell : Cell), i < row.cells.length → r.cells[i]? = some cell →
        row.cells[i]? =
          some (if cell.count = 0 then none else some ((cell.sum + (cell.count / 2 : Nat)) / (cell.count : Int)))) ∧
      (∀ m, row.minimum = some m ↔
        (∃ cell, r.Present s.width s.straps.maxWidth cell ∧ cell.minimum = some m) ∧
          ∀ cell v, r.Present s.width s.straps.maxWidth cell → cell.minimum = some v → m ≤ v) ∧
      row.cold =
        (row.cells.filter fun cell =>
          match cell with
          | some v => decide (v < (page.coldThreshold : Int))
          | none => false).length ∧
      (∀ i : Fin 4, MarkWindow.Overlaps (page.windows.get i) r.start length →
        (∀ j, j < i → ¬MarkWindow.Overlaps (page.windows.get j) r.start length) → row.mark = (page.windows.get i).tag) ∧
      ((∀ i : Fin 4, ¬MarkWindow.Overlaps (page.windows.get i) r.start length) → row.mark = 0) ∧
      row.speed =
        (if r.speedCount = 0 then 0 else (r.speedSum + (r.speedCount / 2 : Nat)) / (r.speedCount : Int)) ∧
      row.plate =
        (if s.straps.fitted = 0 ∨ r.plateCount = 0 then none
          else some ((r.plateSum + (r.plateCount / 2 : Nat)) / (r.plateCount : Int))) ∧
      row.height = (if s.levelling = true ∧ s.level.grade.fault = false then s.level.grade.last else none))

/-- COLLECT and RELEASE. A COLLECT in IDLE whose range holds a row is accepted, and the RECORD of the range's first row is offered at
once; one with an empty range is answered EMPTY; one in IN-FLIGHT is answered BUSY and leaves the collection. An answer waits while one is
outstanding. SEND_COMPLETE of the RECORD outstanding counts it as sent and passes over the sequences of the range that are no longer held,
counting them as skipped; the RECORD of the next sequence is then offered, or, past the range's last, the final answer DONE. RELEASE
removes the rows from the oldest up to the sequence named, none when that lies before the oldest, counts them as released and moves the
oldest sequence by their number; below 512 rows RING-FULL is absent (R152, R157 to R160). -/
def Obligations.CollectAndReleaseServeRing : Prop :=
  (∀ (s : State) (sender : Fin 16) (first : Word32) (count n i : Nat) (h : HeldRow), s.phase = .running → s.ring.Sound →
    s.ring.collection.inFlight = false → n = max 1 (min 16 count) → s.ring.rows[i]? = some h →
    (first = h.seq ∨
      (i = 0 ∧ (first - h.seq).toInt < 0 ∧ 0 ≤ (first + BitVec.ofNat 32 (n - 1) - h.seq).toInt)) →
    ∃ t, exec (.collect sender first count) s = .next t ∧
      t.ring =
        { s.ring with
          collection :=
            { s.ring.collection with
              inFlight := true, requester := some sender, firstAsked := some first
              range :=
                .span h.seq
                  (if (first + BitVec.ofNat 32 (n - 1) - s.ring.oldest).toInt < (s.ring.rows.length : Int) then
                    first + BitVec.ofNat 32 (n - 1)
                  else s.ring.next - 1)
              next := some (h.seq + 1), firstSent := some h.seq, sent := 0, skipped := 0, outstanding := true } } ∧
      t.line.queue.record.newest = some (.record ⟨sender, h⟩) ∧
      t.sup.station = (if s.sup.station = .park then .parkInquiry else s.sup.station)) ∧
  (∀ (s : State) (sender : Fin 16) (first : Word32) (count n : Nat), s.phase = .running →
    s.ring.collection.inFlight = false → n = max 1 (min 16 count) →
    (s.ring.rows = [] ∨ (s.ring.rows.length : Int) ≤ (first - s.ring.oldest).toInt ∨
      (first + BitVec.ofNat 32 (n - 1) - s.ring.oldest).toInt < 0) →
    ∃ t, exec (.collect sender first count) s = .next t ∧ t.ring.collection.inFlight = true ∧
      t.ring.collection.range = .empty ∧ t.ring.rows = s.ring.rows ∧
      (s.ring.collection.answerOutstanding = true →
        t.ring.collection.final = .owed .empty ∧ t.line.queue.collectEnd = s.line.queue.collectEnd) ∧
      (s.ring.collection.answerOutstanding = false →
        t.ring.collection.final = .offered ∧ t.ring.collection.answerOutstanding = true ∧
          t.line.queue.collectEnd.newest =
            some
              (.collectEnd
                { requester := sender, outcome := .empty, firstAsked := first, firstSent := none, sent := 0, skipped := 0
                  oldest := s.ring.oldest, newest := s.ring.newest, overwritten := s.ring.overwritten
                  dropped := s.ring.dropped, closed := s.ring.closed, released := s.ring.released }))) ∧
  (∀ (s : State) (sender : Fin 16) (first : Word32) (count : Nat), s.phase = .running →
    s.ring.collection.inFlight = true → (∀ outcome, s.ring.collection.final ≠ .owed outcome) →
    ∃ t, exec (.collect sender first count) s = .next t ∧ t.sup.station = s.sup.station ∧
      (s.ring.collection.answerOutstanding = true →
        t.ring = { s.ring with collection := { s.ring.collection with busy := some ⟨sender, first⟩ } } ∧
          t.line.queue.collectEnd = s.line.queue.collectEnd) ∧
      (s.ring.collection.answerOutstanding = false →
        t.ring = { s.ring with collection := { s.ring.collection with busy := none, answerOutstanding := true } } ∧
          t.line.queue.collectEnd.newest =
            some
              (.collectEnd
                { requester := sender, outcome := .busy, firstAsked := first, firstSent := none, sent := 0, skipped := 0
                  oldest := s.ring.oldest, newest := s.ring.newest, overwritten := s.ring.overwritten
                  dropped := s.ring.dropped, closed := s.ring.closed, released := s.ring.released }))) ∧
  (∀ (s : State) (c : RecordContent) (p : Nat) (f : Option Content) (sender : Fin 16)
      (asked first last next start : Word32) (skip : Nat), s.phase = .running → s.ring.Sound →
    s.line.queue.get .record = .inFlight (.record c) p f → s.line.queue.OnlyFlying .record →
    s.ring.collection.outstanding = true → s.ring.collection.requester = some sender →
    s.ring.collection.firstAsked = some asked → s.ring.collection.range = .span first last →
    s.ring.collection.next = some next →
    (start, skip) =
      (if (next - s.ring.oldest).toInt < 0 then
        (s.ring.oldest, (min (last - s.ring.oldest).toInt (-1) - (next - s.ring.oldest).toInt + 1).toNat)
      else (next, 0)) →
    ∃ t, exec (.sendComplete .success) s = .next t ∧ t.sup.station = s.sup.station ∧ t.ring.rows = s.ring.rows ∧
      t.ring.collection.inFlight = s.ring.collection.inFlight ∧
      t.ring.collection.sent = s.ring.collection.sent + 1 ∧
      t.ring.collection.skipped = s.ring.collection.skipped + skip ∧
      (∀ (i : Nat) (h : HeldRow), s.ring.rows[i]? = some h → h.seq = start →
        (start - s.ring.oldest).toInt ≤ (last - s.ring.oldest).toInt →
        t.ring.collection.outstanding = true ∧ t.ring.collection.next = some (start + 1) ∧
          t.ring.collection.firstSent = some (s.ring.collection.firstSent.getD start) ∧
          t.ring.collection.final = s.ring.collection.final ∧
          t.line.queue.record.newest = some (.record ⟨sender, h⟩)) ∧
      (s.ring.rows = [] ∨ (last - s.ring.oldest).toInt < (start - s.ring.oldest).toInt →
        t.ring.collection.outstanding = false ∧
          (s.ring.collection.answerOutstanding = true →
            t.ring.collection.final = .owed .done ∧ t.line.queue.collectEnd = s.line.queue.collectEnd) ∧
          (s.ring.collection.answerOutstanding = false →
            t.ring.collection.final = .offered ∧ t.ring.collection.answerOutstanding = true ∧
              t.line.queue.collectEnd.newest =
                some
                  (.collectEnd
                    { requester := sender, outcome := .done, firstAsked := asked
                      firstSent := s.ring.collection.firstSent, sent := s.ring.collection.sent + 1
                      skipped := s.ring.collection.skipped + skip
                      oldest := s.ring.oldest, newest := s.ring.newest, overwritten := s.ring.overwritten
                      dropped := s.ring.dropped, closed := s.ring.closed, released := s.ring.released })))) ∧
  (∀ (s : State) (upto : Word32) (k : Nat), s.phase = .running →
    k =
      (if s.ring.rows = [] ∨ (upto - s.ring.oldest).toInt < 0 then 0
        else min ((upto - s.ring.oldest).toNat + 1) s.ring.rows.length) →
    ∃ t, exec (.release upto) s = .next t ∧
      State.SameButStatus
        { s with
          ring := { s.ring with rows := s.ring.rows.drop k, released := s.ring.released + BitVec.ofNat 32 k } } t ∧
      t.ring.oldest = s.ring.oldest + BitVec.ofNat 32 k ∧ (t.ring.rows.length < 512 → t.alarm .ringFull = false))

/-! ## Settings -/

/-- SETTINGS: the slot of the page named holds it clamped to its ranges, with its age at 0, and every other slot is as it was; a field
that was clamped or replaced raises SETTINGS-CLAMPED. The consumer is told: a HEAT page is pending while a window runs and applied at
once otherwise; LEVEL and FEED pages are pending where a side or the drives are driven; a RECORD page is pending while a row is
open and applied at once otherwise; a TRAVEL page is applied at once, and makes an uncalibrated station STOPPED, or LOST without a
source. PAGE_AGE_EXPIRY: a held page whose age has passed 10 s is stale, and is still held; a younger page, and every other page, is
as it was (R26, R58, R101, R128, R148, R163, R165, R166; assumption 28 for the remainder at the first page, 38 for the age limit). -/
def Obligations.SettingsAreHeldHandedAndAged : Prop :=
  (∀ (s : State) (f : SettingsFields), s.phase = .running →
    ∃ t, exec (.settings f) s = .next t ∧
      t.settings =
        (match f with
          | .heat x => { s.settings with heat := some ⟨.ofFields x, s.now, false⟩ }
          | .level x => { s.settings with level := some ⟨.ofFields x, s.now, false⟩ }
          | .feed x => { s.settings with feed := some ⟨.ofFields x, s.now, false⟩ }
          | .record x => { s.settings with record := some ⟨.ofFields x, s.now, false⟩ }
          | .travel x => { s.settings with travel := some ⟨.ofFields x, s.now, false⟩ }) ∧
      (SettingsFields.changed f = true → t.alarm .settingsClamped = true) ∧
      (∀ x, f = .heat x →
        (s.heat.supply = .running → t.heat = { s.heat with pending := true }) ∧
          (s.heat.supply ≠ .running → t.heat = { s.heat with page := some (.ofFields x), pending := false })) ∧
      (∀ x, f = .level x → t.level = { s.level with pending := s.levelling || s.level.pending }) ∧
      (∀ x, f = .feed x → t.feed = { s.feed with pending := s.owner || s.feed.pending }) ∧
      (∀ x, f = .record x →
        (s.rows.openRow.isSome = true → t.rows = { s.rows with pending := true } ∧ t.ring = s.ring) ∧
          (s.rows.openRow = none →
            t.rows.page = some (.ofFields x) ∧ t.rows.pending = false ∧
              t.ring = { s.ring with mode := (RecordPage.ofFields x).ringMode } ∧
              (t.rows.openRow.isSome = true ↔
                s.straps.scanner = true ∧ s.sup.station = .run ∧ s.travel.state = .paving))) ∧
      (∀ x, f = .travel x →
        t.travel.page = some (.ofFields x) ∧ t.travel.chainage = s.travel.chainage ∧
          t.travel.remainder = min s.travel.remainder ((TravelPage.ofFields x).pulsesPerMetre - 1) ∧
          (s.travel.page = none →
            t.travel.state = (if s.travel.source = .none then .lost else .stopped) ∧
              t.travel.mark = s.travel.chainage))) ∧
  (∀ x, (HeatPage.ofFields x).InRange) ∧ (∀ x, (LevelPage.ofFields x).InRange) ∧ (∀ x, (FeedPage.ofFields x).InRange) ∧
  (∀ x, (RecordPage.ofFields x).InRange) ∧ (∀ x, (TravelPage.ofFields x).InRange) ∧
  (∀ (s : State) (k : PageKind), s.phase = .running →
    ∃ t, exec (.pageAgeExpiry k) s = .next t ∧ State.SameButStatus { s with settings := t.settings } t ∧
      (∀ h, s.settings.heat = some h →
        t.settings.heat = some (if k = .heat ∧ h.since + 100000 < s.now then { h with stale := true } else h)) ∧
      (∀ h, s.settings.level = some h →
        t.settings.level = some (if k = .level ∧ h.since + 100000 < s.now then { h with stale := true } else h)) ∧
      (∀ h, s.settings.feed = some h →
        t.settings.feed = some (if k = .feed ∧ h.since + 100000 < s.now then { h with stale := true } else h)) ∧
      (∀ h, s.settings.record = some h →
        t.settings.record = some (if k = .record ∧ h.since + 100000 < s.now then { h with stale := true } else h)) ∧
      (∀ h, s.settings.travel = some h →
        t.settings.travel = some (if k = .travel ∧ h.since + 100000 < s.now then { h with stale := true } else h)) ∧
      (s.settings.heat = none → t.settings.heat = none) ∧ (s.settings.level = none → t.settings.level = none) ∧
      (s.settings.feed = none → t.settings.feed = none) ∧ (s.settings.record = none → t.settings.record = none) ∧
      (s.settings.travel = none → t.settings.travel = none))

/-! ## Park, wake and the resets -/

/-- PARK: refused LEVELLING-AUTO, then FEED-RUNNING, each with PARK-REFUSED raised and nothing else changed but the last command outcome
and the serial; while parked the option changes and an owed wake is cleared; otherwise the station is PARK, or PARK-INQUIRY while a
collection is in flight, no coil is energised, both drive outputs are 0, the scanner is off, and the open row closes PARK, or is
discarded when it has no length or no counted sweep (R140, R142, R174, R175). -/
def Obligations.ParkJudgedAndEntered : Prop :=
  (∀ (s : State) (sender : Fin 16) (o : ParkOption) (reason : Reason), s.phase = .running →
    ((isAuto s.level.mode = true ∧ reason = .levellingAuto) ∨
      (isAuto s.level.mode = false ∧ (s.feed.conveyor.mode ≠ .off ∨ s.feed.auger.mode ≠ .off) ∧ reason = .feedRunning)) →
    ∃ t, exec (.park sender o) s = .next t ∧ t.alarm .parkRefused = true ∧
      State.SameButStatus
        { s with
          sup :=
            { s.sup with
              outcome := some ⟨.park, none, sender, some reason⟩, serial := s.sup.serial + 1
              events := { s.sup.events with parkRefused := some s.sup.formed } } } t) ∧
  (∀ (s : State) (sender : Fin 16) (o : ParkOption), s.phase = .running → isAuto s.level.mode = false →
    s.feed.conveyor.mode = .off → s.feed.auger.mode = .off → (s.sup.station = .park ∨ s.sup.station = .parkInquiry) →
    ∃ t, exec (.park sender o) s = .next t ∧
      State.SameButStatus
        { s with
          sup :=
            { s.sup with
              outcome := some ⟨.park, none, sender, none⟩, serial := s.sup.serial + 1, option := some o
              wakeOwed := false } } t) ∧
  (∀ (s : State) (sender : Fin 16) (o : ParkOption), s.phase = .running → isAuto s.level.mode = false →
    s.feed.conveyor.mode = .off → s.feed.auger.mode = .off → (s.sup.station = .run ∨ s.sup.station = .waking) →
    ∃ t, exec (.park sender o) s = .next t ∧
      t.sup.station = (if s.ring.collection.inFlight then .parkInquiry else .park) ∧ t.sup.option = some o ∧
      t.sup.wakingTimer = none ∧ t.sup.wakeOwed = false ∧ t.sup.outcome = some ⟨.park, none, sender, none⟩ ∧
      t.level = { s.level with driver := t.level.driver, redo := false } ∧ t.level.driver.energised = none ∧
      (∀ d, t.driveOutput d = 0) ∧ t.rows.scannerOn = false ∧ t.rows.silence = .stopped ∧ t.rows.openRow = none ∧
      t.heat = s.heat ∧ t.load = s.load ∧ t.feed = s.feed ∧ t.travel = s.travel ∧ t.settings = s.settings ∧
      (∀ r page, s.rows.openRow = some r → s.rows.page = some page → r.start < s.rows.lastChainage → r.sweeps ≠ 0 →
        s.ring.rows.length < 512 →
        ∃ row, t.ring.rows = s.ring.rows ++ [⟨s.ring.next, row⟩] ∧ t.ring.closed = s.ring.closed + 1 ∧
          row.cause = .park ∧ row.start = r.start ∧ row.length = s.rows.lastChainage - r.start) ∧
      ((∀ r, s.rows.openRow = some r → s.rows.lastChainage ≤ r.start ∨ r.sweeps = 0) →
        t.ring.rows = s.ring.rows ∧ t.ring.closed = s.ring.closed))

/-- WAKE: in PARK the station is WAKING for 5000 ms with no park option, and a fitted scanner is powered with its silence timer at 500 ms;
in PARK-INQUIRY the wake is owed; in WAKING and RUN nothing changes. WAKING_TIMER_EXPIRY: the station is RUN, and a row opens when a
scanner is fitted, a page is applied and the paver is PAVING. SEND_COMPLETE of the final COLLECT-END in PARK-INQUIRY ends the
collection, and the station is PARK again, or WAKING when a wake is owed (R159, R176, R177). -/
def Obligations.WakeAndWaking : Prop :=
  (∀ s : State, s.phase = .running → s.sup.station = .park →
    ∃ t, exec .wake s = .next t ∧
      State.SameButStatus
        { s with
          sup :=
            { s.sup with
              station := .waking, option := none, wakeOwed := false, wakingTimer := some (s.now + 50000) }
          rows :=
            if s.straps.scanner then { s.rows with scannerOn := true, silence := .running (s.now + 5000) }
            else s.rows } t) ∧
  (∀ s : State, s.phase = .running → s.sup.station = .parkInquiry →
    ∃ t, exec .wake s = .next t ∧ State.SameButStatus { s with sup := { s.sup with wakeOwed := true } } t) ∧
  (∀ s : State, s.phase = .running → (s.sup.station = .waking ∨ s.sup.station = .run) →
    ∃ t, exec .wake s = .next t ∧ State.SameButStatus s t) ∧
  (∀ (s : State) (d : Nat), s.phase = .running → s.sup.wakingTimer = some d → d ≤ s.now → s.rows.openRow = none →
    ∃ t, exec .wakingTimerExpiry s = .next t ∧
      State.SameButStatus
        { s with sup := { s.sup with station := .run, wakingTimer := none }, rows := t.rows } t ∧
      (t.rows.openRow.isSome = true ↔
        s.straps.scanner = true ∧ s.rows.page.isSome = true ∧ s.travel.state = .paving) ∧
      (t.rows.openRow = none → t.rows = s.rows)) ∧
  (∀ (s : State) (c : CollectEndContent) (p : Nat) (f : Option Content), s.phase = .running →
    s.line.queue.get .collectEnd = .inFlight (.collectEnd c) p f → s.line.queue.OnlyFlying .collectEnd →
    c.outcome ≠ .busy → s.sup.station = .parkInquiry → s.ring.collection.inFlight = true →
    ∃ t, exec (.sendComplete .success) s = .next t ∧ t.ring.collection.inFlight = false ∧
      t.ring.collection.final = .absent ∧ t.sup.station = (if s.sup.wakeOwed then .waking else .park))

/-- RESTART and RESTART_PIN_ACTIVE assert a warm restart: every block takes its warm restart values, every output is off and a bulletin
in flight is cut off. RESTART_TIMER_EXPIRY at its time and RESTART_PIN_INACTIVE release it, unless the other prolongs it: the station
is RUN with the cause of the latest assertion, the timers start, and the first STATUS is offered. While a reset is asserted the
station takes no event (R178; that the pin going active during a restart makes it the pin's is assumption 16). -/
def Obligations.WarmRestartAssertsAndReleases : Prop :=
  (∀ (s : State) (c : Instr), s.phase = .running → (c = .restart ∨ c = .restartPinActive) →
    ∃ t, exec c s = .next t ∧ t.OutputsOff ∧ State.WarmValues s t ∧
      t.phase =
        (if c = .restart then .warm (some (s.now + 100)) false .restartCommand else .warm none true .restartPin)) ∧
  (∀ (s : State) (timer : Option Nat) (held : Bool) (cause : ResetCause), s.phase = .warm timer held cause →
    exec .restartPinActive s = .next { s with phase := .warm timer true .restartPin } ∧
      (∀ d, timer = some d → d ≤ s.now → held = true →
        exec .restartTimerExpiry s = .next { s with phase := .warm none true cause }) ∧
      (∀ d, timer = some d → held = true →
        exec .restartPinInactive s = .next { s with phase := .warm (some d) false cause }) ∧
      (∀ c : Instr,
        (c = .restartTimerExpiry ∧ held = false ∧ ∃ d, timer = some d ∧ d ≤ s.now) ∨
          (c = .restartPinInactive ∧ held = true ∧ timer = none) →
        ∃ t, exec c s = .next t ∧ t.phase = .running ∧ t.sup.resetCause = cause ∧ t.sup.station = s.sup.station ∧
          t.identity = s.identity ∧ t.ring = s.ring ∧ t.settings = s.settings ∧
          t.travel =
            { s.travel with
              speedTimer := if s.straps.encoder then some (s.now + 1000) else none
              cadence := some (s.now + 1000) } ∧
          t.heat.supplyTimer = some (s.now + 1000) ∧ t.heat.sensorTimer = some (s.now + 1000) ∧
          t.load = { s.load with idleTimer := some (s.now + 10000) } ∧ t.level.cadence = some (s.now + 1000) ∧
          t.feed.cadence = some (s.now + 5000) ∧ t.sup.cadence = some (s.now + 10000) ∧
          ∃ n, t.line.queue.status.newest = some (.status t.formStatus n))) ∧
  (∀ (s : State) (c : Instr), s.phase ≠ .running → c ≠ .restartTimerExpiry → c ≠ .restartPinActive →
    c ≠ .restartPinInactive → c ≠ .powerOnResetAssert → (∀ straps, c ≠ .powerOnResetRelease straps) →
    ∃ t, exec c s = .next t ∧ t = { s with pins := t.pins })

/-- POWER_ON_RESET_ASSERT switches every output off and cuts a bulletin in flight off, and the restart pin has no effect until the
release; POWER_ON_RESET_RELEASE, when the supply has been within its level for 50 ms, samples the straps and gives every block its
power-on values with its timers started: strap record, line and peer table, travel, zones and supply, share, side and driver, drives, row
builder, ring, pages and station record, with the first STATUS offered (R1, R11, R17 to R19, R22, R37, R43, R61, R82, R117, R132, R151,
R156, R163, R173, R179). That the first STATUS is offered, that the pin's level is not held, and what stands while the reset is asserted
are the model's choice (assumptions 15, 17 and 18). -/
def Obligations.PowerOnResetTakesAll : Prop :=
  (∀ s : State, ∃ t, exec .powerOnResetAssert s = .next t ∧ t.OutputsOff ∧
    t = { s with phase := .powerOn s.now, line := { s.line with sending := none, echoed := false } }) ∧
  (∀ (s : State) (since : Nat), s.phase = .powerOn since →
    exec .restartPinActive s = .next s ∧ exec .restartPinInactive s = .next s ∧ exec .restart s = .next s ∧
      exec .restartTimerExpiry s = .next s ∧
      (∀ straps, s.now < since + 500 → exec (.powerOnResetRelease straps) s = .next s) ∧
      ∀ straps, since + 500 ≤ s.now →
        ∃ t, exec (.powerOnResetRelease straps) s = .next t ∧ t.pending = s.pending ∧
          t.PowerOnValues (sampleStraps straps) s.pins s.now) ∧
  (∀ (s : State) (straps : BitVec 18), (∀ since, s.phase ≠ .powerOn since) →
    exec (.powerOnResetRelease straps) s = .next s)

/-! ## Invariants -/

/-- Every step keeps the line's laws: QUIET exactly at 32 errors and while the quiet timer runs, with nothing in flight; at most one slot
in flight, bytes on the line exactly then, and neither during a warm restart (R13, R17, R18, R178). -/
def Obligations.StepKeepsLineSound : Prop := ∀ s t : State, s.LineSound → step s = .next t → t.LineSound

/-- Every step keeps the travel record's laws: the stop timer runs exactly in PAVING, an uncalibrated station is STOPPED at speed 0, the
remainder stays below P, and LOST stands exactly at a calibrated follower without a source (R22, R26, R28, R29, R32). -/
def Obligations.StepKeepsTravelSound : Prop := ∀ s t : State, s.TravelSound → step s = .next t → t.TravelSound

/-- Every step keeps the heater's law that an output is on only in an on-slot of a REGULATING, uncut, fitted zone while a window runs
under an applied page, and the generator share's laws of the shed factor and the shed handshake (R39, R43 to R45, R51, R71, R73, R76). -/
def Obligations.StepKeepsHeatAndLoadSound : Prop :=
  ∀ s t : State, step s = .next t → (s.HeatSound → t.HeatSound) ∧ (s.LoadSound → t.LoadSound)

/-- Every step keeps the side's laws: the condition is NONE exactly outside AUTO, a resume record stands only in FROZEN or SETTLING, HOLD
only with a cause, and a station that levels no side never leaves OFF and NEUTRAL (R81, R82, R88, R105). -/
def Obligations.StepKeepsLevelSound : Prop := ∀ s t : State, s.LevelSound → step s = .next t → t.LevelSound

/-- Every step keeps the drives' laws: NONE with command 0 exactly in OFF, STALLED with command 0, the stall timer exactly at 200 or
more, the hold timer exactly in SENSOR-HOLD, no command above 1000 (R117, R120, R126, R127). -/
def Obligations.StepKeepsFeedSound : Prop := ∀ s t : State, s.FeedSound → step s = .next t → t.FeedSound

/-- Every step keeps the ring's account: at most 512 rows in consecutive sequences, rows committed = released + overwritten + held, and
rows closed = committed + dropped (R151, R152, R154). -/
def Obligations.StepKeepsRingAccount : Prop := ∀ s t : State, s.ring.Sound → step s = .next t → t.ring.Sound

/-- Every step keeps the station's laws: the park option stands exactly while parked, the waking timer runs exactly in WAKING,
PARK-INQUIRY is PARK with a collection in flight, a parked station has no side in AUTO, no drive running and its scanner off, and a
row is open only in RUN (R133, R138, R173 to R177). -/
def Obligations.StepKeepsStationSound : Prop := ∀ s t : State, s.StationSound → step s = .next t → t.StationSound

/-- Every step keeps every held and applied page within the ranges of R164, and leaves no STATUS offer owed (R164, R165, R171). -/
def Obligations.StepKeepsPagesInRange : Prop :=
  ∀ s t : State, step s = .next t → (s.PagesSound → t.PagesSound) ∧ (s.ReportSound → t.ReportSound)

/-- The state right after power-on reset meets every invariant, is RUN and SPEAKING with no command waiting and its first STATUS offered,
has its chainage, its ring and its outputs at 0, and holds no page (R18, R22, R151, R163, R171, R173; its straps and pins are the
model's choice, assumption 14, and that its first STATUS stands offered is assumption 15). -/
def Obligations.ResetMeetsEveryInvariant : Prop :=
  State.reset.LineSound ∧ State.reset.TravelSound ∧ State.reset.HeatSound ∧ State.reset.LoadSound ∧ State.reset.LevelSound ∧
    State.reset.FeedSound ∧ State.reset.ring.Sound ∧ State.reset.StationSound ∧ State.reset.PagesSound ∧
    State.reset.ReportSound ∧ State.reset.OutputsOff ∧ State.reset.pending = [] ∧ State.reset.phase = .running ∧
    State.reset.sup.station = .run ∧ State.reset.sup.resetCause = .powerOn ∧ State.reset.line.state = .speaking ∧
    State.reset.travel.chainage = 0 ∧ State.reset.travel.state = .stopped ∧ State.reset.ring.rows = [] ∧
    State.reset.ring.mode = .wrap ∧ State.reset.settings = ⟨none, none, none, none, none⟩ ∧
    State.reset.heat.supply = .starting ∧ State.reset.load.factor = 256 ∧
    State.reset.line.queue.status.newest = some (.status State.reset.formStatus 0)
end

