-- ==== Sys2Proof/Laws/Arithmetic.lean ====
section
/-! SUPPORT. Clamping, saturation and time in the terms in which statements are written: max, min and plain comparisons. -/

namespace Sys2Proof.Machine

theorem clampNat_eq {low high : Nat} (h : low ≤ high) (n : Nat) : clampNat low high n = max low (min high n) := by
  unfold clampNat
  split_ifs <;> omega

@[simp] theorem clampNat_zero (high n : Nat) : clampNat 0 high n = min high n := by
  rw [clampNat_eq (Nat.zero_le high), Nat.zero_max]

theorem clampInt_eq {low high : Int} (h : low ≤ high) (n : Int) : clampInt low high n = max low (min high n) := by
  unfold clampInt
  split_ifs <;> omega

theorem clampNat_bounds {low high : Nat} (h : low ≤ high) (n : Nat) : low ≤ clampNat low high n ∧ clampNat low high n ≤ high := by
  rw [clampNat_eq h]
  omega

@[simp] theorem saturate_eq (high n : Nat) : saturate high n = min high n := by
  unfold saturate
  split_ifs <;> omega

/-- An age has passed a limit exactly when the clock is more than the limit past its start. -/
theorem passed_iff (since limit now : Nat) : passed since limit now = true ↔ since + limit < now := by
  unfold passed
  simp only [decide_eq_true_eq]
  omega

/-- A timer is due exactly when it runs and its time has come. -/
theorem due_iff (timer : Option Nat) (now : Nat) : due timer now = true ↔ ∃ d, timer = some d ∧ d ≤ now := by
  cases timer <;> simp [due]

theorem due_eq_false_iff (timer : Option Nat) (now : Nat) : due timer now = false ↔ ∀ d, timer = some d → now < d := by
  cases timer <;> simp [due]

/-- A reading lies in its measuring range exactly when it is a number within it. -/
theorem readingWithin_eq_some_iff (low high : Int) (r : Reading) (v : Int) :
    readingWithin low high r = some v ↔ r = .value v ∧ low ≤ v ∧ v ≤ high := by
  cases r with
  | openCircuit => simp [readingWithin]
  | value w =>
    simp only [readingWithin]
    split_ifs with h
    · simp only [Option.some.injEq, Reading.value.injEq]
      constructor
      · rintro rfl
        exact ⟨rfl, h⟩
      · exact fun h => h.1
    · constructor
      · exact fun h => nomatch h
      · rintro ⟨h1, h2⟩
        cases h1
        exact absurd h2 h

end Sys2Proof.Machine
end

