-- ==== Sys2Proof/Laws/State.lean ====
section
/-! SUPPORT. One lemma for each field and each update of the state that the blocks share, true by definition, so that no later proof
unfolds a record update. -/

namespace Sys2Proof.Machine

/-! An offer touches the transmit queue alone (R12). -/

@[simp] theorem State.offer_now (s : State) (c : Content) : (s.offer c).now = s.now := rfl
@[simp] theorem State.offer_pending (s : State) (c : Content) : (s.offer c).pending = s.pending := rfl
@[simp] theorem State.offer_phase (s : State) (c : Content) : (s.offer c).phase = s.phase := rfl
@[simp] theorem State.offer_pins (s : State) (c : Content) : (s.offer c).pins = s.pins := rfl
@[simp] theorem State.offer_identity (s : State) (c : Content) : (s.offer c).identity = s.identity := rfl
@[simp] theorem State.offer_travel (s : State) (c : Content) : (s.offer c).travel = s.travel := rfl
@[simp] theorem State.offer_heat (s : State) (c : Content) : (s.offer c).heat = s.heat := rfl
@[simp] theorem State.offer_load (s : State) (c : Content) : (s.offer c).load = s.load := rfl
@[simp] theorem State.offer_level (s : State) (c : Content) : (s.offer c).level = s.level := rfl
@[simp] theorem State.offer_feed (s : State) (c : Content) : (s.offer c).feed = s.feed := rfl
@[simp] theorem State.offer_rows (s : State) (c : Content) : (s.offer c).rows = s.rows := rfl
@[simp] theorem State.offer_ring (s : State) (c : Content) : (s.offer c).ring = s.ring := rfl
@[simp] theorem State.offer_settings (s : State) (c : Content) : (s.offer c).settings = s.settings := rfl
@[simp] theorem State.offer_sup (s : State) (c : Content) : (s.offer c).sup = s.sup := rfl
@[simp] theorem State.offer_line_state (s : State) (c : Content) : (s.offer c).line.state = s.line.state := rfl
@[simp] theorem State.offer_line_errors (s : State) (c : Content) : (s.offer c).line.errors = s.line.errors := rfl
@[simp] theorem State.offer_line_quietTimer (s : State) (c : Content) : (s.offer c).line.quietTimer = s.line.quietTimer := rfl
@[simp] theorem State.offer_line_receiveErrors (s : State) (c : Content) :
    (s.offer c).line.receiveErrors = s.line.receiveErrors := rfl
@[simp] theorem State.offer_line_duplicateTimer (s : State) (c : Content) :
    (s.offer c).line.duplicateTimer = s.line.duplicateTimer := rfl
@[simp] theorem State.offer_line_peers (s : State) (c : Content) : (s.offer c).line.peers = s.line.peers := rfl
@[simp] theorem State.offer_line_sending (s : State) (c : Content) : (s.offer c).line.sending = s.line.sending := rfl
@[simp] theorem State.offer_line_echoed (s : State) (c : Content) : (s.offer c).line.echoed = s.line.echoed := rfl

/-! A STATUS offer touches the transmit queue and the supervisor's own marks alone (R171). -/

@[simp] theorem State.offerStatus_now (s : State) : (s.offerStatus).now = s.now := rfl
@[simp] theorem State.offerStatus_pending (s : State) : (s.offerStatus).pending = s.pending := rfl
@[simp] theorem State.offerStatus_phase (s : State) : (s.offerStatus).phase = s.phase := rfl
@[simp] theorem State.offerStatus_pins (s : State) : (s.offerStatus).pins = s.pins := rfl
@[simp] theorem State.offerStatus_identity (s : State) : (s.offerStatus).identity = s.identity := rfl
@[simp] theorem State.offerStatus_travel (s : State) : (s.offerStatus).travel = s.travel := rfl
@[simp] theorem State.offerStatus_heat (s : State) : (s.offerStatus).heat = s.heat := rfl
@[simp] theorem State.offerStatus_load (s : State) : (s.offerStatus).load = s.load := rfl
@[simp] theorem State.offerStatus_level (s : State) : (s.offerStatus).level = s.level := rfl
@[simp] theorem State.offerStatus_feed (s : State) : (s.offerStatus).feed = s.feed := rfl
@[simp] theorem State.offerStatus_rows (s : State) : (s.offerStatus).rows = s.rows := rfl
@[simp] theorem State.offerStatus_ring (s : State) : (s.offerStatus).ring = s.ring := rfl
@[simp] theorem State.offerStatus_settings (s : State) : (s.offerStatus).settings = s.settings := rfl
@[simp] theorem State.offerStatus_line_state (s : State) : (s.offerStatus).line.state = s.line.state := rfl
@[simp] theorem State.offerStatus_line_errors (s : State) : (s.offerStatus).line.errors = s.line.errors := rfl
@[simp] theorem State.offerStatus_line_quietTimer (s : State) : (s.offerStatus).line.quietTimer = s.line.quietTimer := rfl
@[simp] theorem State.offerStatus_line_receiveErrors (s : State) :
    (s.offerStatus).line.receiveErrors = s.line.receiveErrors := rfl
@[simp] theorem State.offerStatus_line_duplicateTimer (s : State) :
    (s.offerStatus).line.duplicateTimer = s.line.duplicateTimer := rfl
@[simp] theorem State.offerStatus_line_peers (s : State) : (s.offerStatus).line.peers = s.line.peers := rfl
@[simp] theorem State.offerStatus_line_sending (s : State) : (s.offerStatus).line.sending = s.line.sending := rfl
@[simp] theorem State.offerStatus_line_echoed (s : State) : (s.offerStatus).line.echoed = s.line.echoed := rfl
@[simp] theorem State.offerStatus_sup_station (s : State) : (s.offerStatus).sup.station = s.sup.station := rfl
@[simp] theorem State.offerStatus_sup_option (s : State) : (s.offerStatus).sup.option = s.sup.option := rfl
@[simp] theorem State.offerStatus_sup_wakingTimer (s : State) : (s.offerStatus).sup.wakingTimer = s.sup.wakingTimer := rfl
@[simp] theorem State.offerStatus_sup_wakeOwed (s : State) : (s.offerStatus).sup.wakeOwed = s.sup.wakeOwed := rfl
@[simp] theorem State.offerStatus_sup_resetCause (s : State) : (s.offerStatus).sup.resetCause = s.sup.resetCause := rfl
@[simp] theorem State.offerStatus_sup_outcome (s : State) : (s.offerStatus).sup.outcome = s.sup.outcome := rfl
@[simp] theorem State.offerStatus_sup_serial (s : State) : (s.offerStatus).sup.serial = s.sup.serial := rfl
@[simp] theorem State.offerStatus_sup_events (s : State) : (s.offerStatus).sup.events = s.sup.events := rfl
@[simp] theorem State.offerStatus_sup_cadence (s : State) : (s.offerStatus).sup.cadence = s.sup.cadence := rfl

/-! A raised event alarm touches the event alarms alone (R170). -/

@[simp] theorem State.raise_now (s : State) (e : EventAlarm) : (s.raise e).now = s.now := rfl
@[simp] theorem State.raise_pending (s : State) (e : EventAlarm) : (s.raise e).pending = s.pending := rfl
@[simp] theorem State.raise_phase (s : State) (e : EventAlarm) : (s.raise e).phase = s.phase := rfl
@[simp] theorem State.raise_pins (s : State) (e : EventAlarm) : (s.raise e).pins = s.pins := rfl
@[simp] theorem State.raise_identity (s : State) (e : EventAlarm) : (s.raise e).identity = s.identity := rfl
@[simp] theorem State.raise_line (s : State) (e : EventAlarm) : (s.raise e).line = s.line := rfl
@[simp] theorem State.raise_travel (s : State) (e : EventAlarm) : (s.raise e).travel = s.travel := rfl
@[simp] theorem State.raise_heat (s : State) (e : EventAlarm) : (s.raise e).heat = s.heat := rfl
@[simp] theorem State.raise_load (s : State) (e : EventAlarm) : (s.raise e).load = s.load := rfl
@[simp] theorem State.raise_level (s : State) (e : EventAlarm) : (s.raise e).level = s.level := rfl
@[simp] theorem State.raise_feed (s : State) (e : EventAlarm) : (s.raise e).feed = s.feed := rfl
@[simp] theorem State.raise_rows (s : State) (e : EventAlarm) : (s.raise e).rows = s.rows := rfl
@[simp] theorem State.raise_ring (s : State) (e : EventAlarm) : (s.raise e).ring = s.ring := rfl
@[simp] theorem State.raise_settings (s : State) (e : EventAlarm) : (s.raise e).settings = s.settings := rfl
@[simp] theorem State.raise_sup_station (s : State) (e : EventAlarm) : (s.raise e).sup.station = s.sup.station := rfl
@[simp] theorem State.raise_sup_option (s : State) (e : EventAlarm) : (s.raise e).sup.option = s.sup.option := rfl
@[simp] theorem State.raise_sup_wakingTimer (s : State) (e : EventAlarm) : (s.raise e).sup.wakingTimer = s.sup.wakingTimer := rfl
@[simp] theorem State.raise_sup_wakeOwed (s : State) (e : EventAlarm) : (s.raise e).sup.wakeOwed = s.sup.wakeOwed := rfl
@[simp] theorem State.raise_sup_resetCause (s : State) (e : EventAlarm) : (s.raise e).sup.resetCause = s.sup.resetCause := rfl
@[simp] theorem State.raise_sup_outcome (s : State) (e : EventAlarm) : (s.raise e).sup.outcome = s.sup.outcome := rfl
@[simp] theorem State.raise_sup_serial (s : State) (e : EventAlarm) : (s.raise e).sup.serial = s.sup.serial := rfl
@[simp] theorem State.raise_sup_formed (s : State) (e : EventAlarm) : (s.raise e).sup.formed = s.sup.formed := rfl
@[simp] theorem State.raise_sup_cadence (s : State) (e : EventAlarm) : (s.raise e).sup.cadence = s.sup.cadence := rfl
@[simp] theorem State.raise_sup_offerDue (s : State) (e : EventAlarm) : (s.raise e).sup.offerDue = s.sup.offerDue := rfl

/-! Asking for a STATUS offer touches its mark alone. -/

@[simp] theorem State.askStatus_now (s : State) : (s.askStatus).now = s.now := rfl
@[simp] theorem State.askStatus_pending (s : State) : (s.askStatus).pending = s.pending := rfl
@[simp] theorem State.askStatus_phase (s : State) : (s.askStatus).phase = s.phase := rfl
@[simp] theorem State.askStatus_pins (s : State) : (s.askStatus).pins = s.pins := rfl
@[simp] theorem State.askStatus_identity (s : State) : (s.askStatus).identity = s.identity := rfl
@[simp] theorem State.askStatus_line (s : State) : (s.askStatus).line = s.line := rfl
@[simp] theorem State.askStatus_travel (s : State) : (s.askStatus).travel = s.travel := rfl
@[simp] theorem State.askStatus_heat (s : State) : (s.askStatus).heat = s.heat := rfl
@[simp] theorem State.askStatus_load (s : State) : (s.askStatus).load = s.load := rfl
@[simp] theorem State.askStatus_level (s : State) : (s.askStatus).level = s.level := rfl
@[simp] theorem State.askStatus_feed (s : State) : (s.askStatus).feed = s.feed := rfl
@[simp] theorem State.askStatus_rows (s : State) : (s.askStatus).rows = s.rows := rfl
@[simp] theorem State.askStatus_ring (s : State) : (s.askStatus).ring = s.ring := rfl
@[simp] theorem State.askStatus_settings (s : State) : (s.askStatus).settings = s.settings := rfl
@[simp] theorem State.askStatus_sup_station (s : State) : (s.askStatus).sup.station = s.sup.station := rfl
@[simp] theorem State.askStatus_sup_option (s : State) : (s.askStatus).sup.option = s.sup.option := rfl
@[simp] theorem State.askStatus_sup_wakingTimer (s : State) : (s.askStatus).sup.wakingTimer = s.sup.wakingTimer := rfl
@[simp] theorem State.askStatus_sup_wakeOwed (s : State) : (s.askStatus).sup.wakeOwed = s.sup.wakeOwed := rfl
@[simp] theorem State.askStatus_sup_resetCause (s : State) : (s.askStatus).sup.resetCause = s.sup.resetCause := rfl
@[simp] theorem State.askStatus_sup_outcome (s : State) : (s.askStatus).sup.outcome = s.sup.outcome := rfl
@[simp] theorem State.askStatus_sup_serial (s : State) : (s.askStatus).sup.serial = s.sup.serial := rfl
@[simp] theorem State.askStatus_sup_events (s : State) : (s.askStatus).sup.events = s.sup.events := rfl
@[simp] theorem State.askStatus_sup_formed (s : State) : (s.askStatus).sup.formed = s.sup.formed := rfl
@[simp] theorem State.askStatus_sup_cadence (s : State) : (s.askStatus).sup.cadence = s.sup.cadence := rfl

/-! A command outcome touches the outcome and the serial alone (R168). -/

@[simp] theorem State.judged_now (s : State) (k : CommandKind) (f : Option CommandFunction) (n : Fin 16) (r : Option Reason) :
    (s.judged k f n r).now = s.now := rfl
@[simp] theorem State.judged_pending (s : State) (k : CommandKind) (f : Option CommandFunction) (n : Fin 16) (r : Option Reason) :
    (s.judged k f n r).pending = s.pending := rfl
@[simp] theorem State.judged_phase (s : State) (k : CommandKind) (f : Option CommandFunction) (n : Fin 16) (r : Option Reason) :
    (s.judged k f n r).phase = s.phase := rfl
@[simp] theorem State.judged_pins (s : State) (k : CommandKind) (f : Option CommandFunction) (n : Fin 16) (r : Option Reason) :
    (s.judged k f n r).pins = s.pins := rfl
@[simp] theorem State.judged_identity (s : State) (k : CommandKind) (f : Option CommandFunction) (n : Fin 16) (r : Option Reason) :
    (s.judged k f n r).identity = s.identity := rfl
@[simp] theorem State.judged_line (s : State) (k : CommandKind) (f : Option CommandFunction) (n : Fin 16) (r : Option Reason) :
    (s.judged k f n r).line = s.line := rfl
@[simp] theorem State.judged_travel (s : State) (k : CommandKind) (f : Option CommandFunction) (n : Fin 16) (r : Option Reason) :
    (s.judged k f n r).travel = s.travel := rfl
@[simp] theorem State.judged_heat (s : State) (k : CommandKind) (f : Option CommandFunction) (n : Fin 16) (r : Option Reason) :
    (s.judged k f n r).heat = s.heat := rfl
@[simp] theorem State.judged_load (s : State) (k : CommandKind) (f : Option CommandFunction) (n : Fin 16) (r : Option Reason) :
    (s.judged k f n r).load = s.load := rfl
@[simp] theorem State.judged_level (s : State) (k : CommandKind) (f : Option CommandFunction) (n : Fin 16) (r : Option Reason) :
    (s.judged k f n r).level = s.level := rfl
@[simp] theorem State.judged_feed (s : State) (k : CommandKind) (f : Option CommandFunction) (n : Fin 16) (r : Option Reason) :
    (s.judged k f n r).feed = s.feed := rfl
@[simp] theorem State.judged_rows (s : State) (k : CommandKind) (f : Option CommandFunction) (n : Fin 16) (r : Option Reason) :
    (s.judged k f n r).rows = s.rows := rfl
@[simp] theorem State.judged_ring (s : State) (k : CommandKind) (f : Option CommandFunction) (n : Fin 16) (r : Option Reason) :
    (s.judged k f n r).ring = s.ring := rfl
@[simp] theorem State.judged_settings (s : State) (k : CommandKind) (f : Option CommandFunction) (n : Fin 16) (r : Option Reason) :
    (s.judged k f n r).settings = s.settings := rfl
@[simp] theorem State.judged_sup_station (s : State) (k : CommandKind) (f : Option CommandFunction) (n : Fin 16) (r : Option Reason) :
    (s.judged k f n r).sup.station = s.sup.station := rfl
@[simp] theorem State.judged_sup_option (s : State) (k : CommandKind) (f : Option CommandFunction) (n : Fin 16) (r : Option Reason) :
    (s.judged k f n r).sup.option = s.sup.option := rfl
@[simp] theorem State.judged_sup_wakingTimer (s : State) (k : CommandKind) (f : Option CommandFunction) (n : Fin 16) (r : Option Reason) :
    (s.judged k f n r).sup.wakingTimer = s.sup.wakingTimer := rfl
@[simp] theorem State.judged_sup_wakeOwed (s : State) (k : CommandKind) (f : Option CommandFunction) (n : Fin 16) (r : Option Reason) :
    (s.judged k f n r).sup.wakeOwed = s.sup.wakeOwed := rfl
@[simp] theorem State.judged_sup_resetCause (s : State) (k : CommandKind) (f : Option CommandFunction) (n : Fin 16) (r : Option Reason) :
    (s.judged k f n r).sup.resetCause = s.sup.resetCause := rfl
@[simp] theorem State.judged_sup_events (s : State) (k : CommandKind) (f : Option CommandFunction) (n : Fin 16) (r : Option Reason) :
    (s.judged k f n r).sup.events = s.sup.events := rfl
@[simp] theorem State.judged_sup_formed (s : State) (k : CommandKind) (f : Option CommandFunction) (n : Fin 16) (r : Option Reason) :
    (s.judged k f n r).sup.formed = s.sup.formed := rfl
@[simp] theorem State.judged_sup_cadence (s : State) (k : CommandKind) (f : Option CommandFunction) (n : Fin 16) (r : Option Reason) :
    (s.judged k f n r).sup.cadence = s.sup.cadence := rfl
@[simp] theorem State.judged_sup_offerDue (s : State) (k : CommandKind) (f : Option CommandFunction) (n : Fin 16) (r : Option Reason) :
    (s.judged k f n r).sup.offerDue = s.sup.offerDue := rfl

/-! A change of what is being sent touches the queue and the bytes alone. -/

@[simp] theorem State.setSending_now (s : State) (q : TxQueue) (b : Option (List LineLevel)) : (s.setSending q b).now = s.now := rfl
@[simp] theorem State.setSending_pending (s : State) (q : TxQueue) (b : Option (List LineLevel)) :
    (s.setSending q b).pending = s.pending := rfl
@[simp] theorem State.setSending_phase (s : State) (q : TxQueue) (b : Option (List LineLevel)) :
    (s.setSending q b).phase = s.phase := rfl
@[simp] theorem State.setSending_pins (s : State) (q : TxQueue) (b : Option (List LineLevel)) : (s.setSending q b).pins = s.pins := rfl
@[simp] theorem State.setSending_identity (s : State) (q : TxQueue) (b : Option (List LineLevel)) :
    (s.setSending q b).identity = s.identity := rfl
@[simp] theorem State.setSending_travel (s : State) (q : TxQueue) (b : Option (List LineLevel)) :
    (s.setSending q b).travel = s.travel := rfl
@[simp] theorem State.setSending_heat (s : State) (q : TxQueue) (b : Option (List LineLevel)) : (s.setSending q b).heat = s.heat := rfl
@[simp] theorem State.setSending_load (s : State) (q : TxQueue) (b : Option (List LineLevel)) : (s.setSending q b).load = s.load := rfl
@[simp] theorem State.setSending_level (s : State) (q : TxQueue) (b : Option (List LineLevel)) :
    (s.setSending q b).level = s.level := rfl
@[simp] theorem State.setSending_feed (s : State) (q : TxQueue) (b : Option (List LineLevel)) : (s.setSending q b).feed = s.feed := rfl
@[simp] theorem State.setSending_rows (s : State) (q : TxQueue) (b : Option (List LineLevel)) : (s.setSending q b).rows = s.rows := rfl
@[simp] theorem State.setSending_ring (s : State) (q : TxQueue) (b : Option (List LineLevel)) : (s.setSending q b).ring = s.ring := rfl
@[simp] theorem State.setSending_settings (s : State) (q : TxQueue) (b : Option (List LineLevel)) :
    (s.setSending q b).settings = s.settings := rfl
@[simp] theorem State.setSending_sup (s : State) (q : TxQueue) (b : Option (List LineLevel)) : (s.setSending q b).sup = s.sup := rfl
@[simp] theorem State.setSending_line_state (s : State) (q : TxQueue) (b : Option (List LineLevel)) :
    (s.setSending q b).line.state = s.line.state := rfl
@[simp] theorem State.setSending_line_errors (s : State) (q : TxQueue) (b : Option (List LineLevel)) :
    (s.setSending q b).line.errors = s.line.errors := rfl
@[simp] theorem State.setSending_line_quietTimer (s : State) (q : TxQueue) (b : Option (List LineLevel)) :
    (s.setSending q b).line.quietTimer = s.line.quietTimer := rfl
@[simp] theorem State.setSending_line_receiveErrors (s : State) (q : TxQueue) (b : Option (List LineLevel)) :
    (s.setSending q b).line.receiveErrors = s.line.receiveErrors := rfl
@[simp] theorem State.setSending_line_duplicateTimer (s : State) (q : TxQueue) (b : Option (List LineLevel)) :
    (s.setSending q b).line.duplicateTimer = s.line.duplicateTimer := rfl
@[simp] theorem State.setSending_line_peers (s : State) (q : TxQueue) (b : Option (List LineLevel)) :
    (s.setSending q b).line.peers = s.line.peers := rfl
@[simp] theorem State.setSending_line_echoed (s : State) (q : TxQueue) (b : Option (List LineLevel)) :
    (s.setSending q b).line.echoed = s.line.echoed := rfl

/-! A change of a peer's entry touches the peer table alone. -/

@[simp] theorem State.setPeer_now (s : State) (n : Fin 8) (e : PeerEntry) : (s.setPeer n e).now = s.now := rfl
@[simp] theorem State.setPeer_pending (s : State) (n : Fin 8) (e : PeerEntry) : (s.setPeer n e).pending = s.pending := rfl
@[simp] theorem State.setPeer_phase (s : State) (n : Fin 8) (e : PeerEntry) : (s.setPeer n e).phase = s.phase := rfl
@[simp] theorem State.setPeer_pins (s : State) (n : Fin 8) (e : PeerEntry) : (s.setPeer n e).pins = s.pins := rfl
@[simp] theorem State.setPeer_identity (s : State) (n : Fin 8) (e : PeerEntry) : (s.setPeer n e).identity = s.identity := rfl
@[simp] theorem State.setPeer_travel (s : State) (n : Fin 8) (e : PeerEntry) : (s.setPeer n e).travel = s.travel := rfl
@[simp] theorem State.setPeer_heat (s : State) (n : Fin 8) (e : PeerEntry) : (s.setPeer n e).heat = s.heat := rfl
@[simp] theorem State.setPeer_load (s : State) (n : Fin 8) (e : PeerEntry) : (s.setPeer n e).load = s.load := rfl
@[simp] theorem State.setPeer_level (s : State) (n : Fin 8) (e : PeerEntry) : (s.setPeer n e).level = s.level := rfl
@[simp] theorem State.setPeer_feed (s : State) (n : Fin 8) (e : PeerEntry) : (s.setPeer n e).feed = s.feed := rfl
@[simp] theorem State.setPeer_rows (s : State) (n : Fin 8) (e : PeerEntry) : (s.setPeer n e).rows = s.rows := rfl
@[simp] theorem State.setPeer_ring (s : State) (n : Fin 8) (e : PeerEntry) : (s.setPeer n e).ring = s.ring := rfl
@[simp] theorem State.setPeer_settings (s : State) (n : Fin 8) (e : PeerEntry) : (s.setPeer n e).settings = s.settings := rfl
@[simp] theorem State.setPeer_sup (s : State) (n : Fin 8) (e : PeerEntry) : (s.setPeer n e).sup = s.sup := rfl
@[simp] theorem State.setPeer_line_state (s : State) (n : Fin 8) (e : PeerEntry) :
    (s.setPeer n e).line.state = s.line.state := rfl
@[simp] theorem State.setPeer_line_errors (s : State) (n : Fin 8) (e : PeerEntry) :
    (s.setPeer n e).line.errors = s.line.errors := rfl
@[simp] theorem State.setPeer_line_quietTimer (s : State) (n : Fin 8) (e : PeerEntry) :
    (s.setPeer n e).line.quietTimer = s.line.quietTimer := rfl
@[simp] theorem State.setPeer_line_receiveErrors (s : State) (n : Fin 8) (e : PeerEntry) :
    (s.setPeer n e).line.receiveErrors = s.line.receiveErrors := rfl
@[simp] theorem State.setPeer_line_duplicateTimer (s : State) (n : Fin 8) (e : PeerEntry) :
    (s.setPeer n e).line.duplicateTimer = s.line.duplicateTimer := rfl
@[simp] theorem State.setPeer_line_queue (s : State) (n : Fin 8) (e : PeerEntry) :
    (s.setPeer n e).line.queue = s.line.queue := rfl
@[simp] theorem State.setPeer_line_sending (s : State) (n : Fin 8) (e : PeerEntry) :
    (s.setPeer n e).line.sending = s.line.sending := rfl
@[simp] theorem State.setPeer_line_echoed (s : State) (n : Fin 8) (e : PeerEntry) :
    (s.setPeer n e).line.echoed = s.line.echoed := rfl

/-! A change of a zone record touches the zones alone. -/

@[simp] theorem State.setZone_now (s : State) (z : Fin 4) (r : Zone) : (s.setZone z r).now = s.now := rfl
@[simp] theorem State.setZone_pending (s : State) (z : Fin 4) (r : Zone) : (s.setZone z r).pending = s.pending := rfl
@[simp] theorem State.setZone_phase (s : State) (z : Fin 4) (r : Zone) : (s.setZone z r).phase = s.phase := rfl
@[simp] theorem State.setZone_pins (s : State) (z : Fin 4) (r : Zone) : (s.setZone z r).pins = s.pins := rfl
@[simp] theorem State.setZone_identity (s : State) (z : Fin 4) (r : Zone) : (s.setZone z r).identity = s.identity := rfl
@[simp] theorem State.setZone_line (s : State) (z : Fin 4) (r : Zone) : (s.setZone z r).line = s.line := rfl
@[simp] theorem State.setZone_travel (s : State) (z : Fin 4) (r : Zone) : (s.setZone z r).travel = s.travel := rfl
@[simp] theorem State.setZone_load (s : State) (z : Fin 4) (r : Zone) : (s.setZone z r).load = s.load := rfl
@[simp] theorem State.setZone_level (s : State) (z : Fin 4) (r : Zone) : (s.setZone z r).level = s.level := rfl
@[simp] theorem State.setZone_feed (s : State) (z : Fin 4) (r : Zone) : (s.setZone z r).feed = s.feed := rfl
@[simp] theorem State.setZone_rows (s : State) (z : Fin 4) (r : Zone) : (s.setZone z r).rows = s.rows := rfl
@[simp] theorem State.setZone_ring (s : State) (z : Fin 4) (r : Zone) : (s.setZone z r).ring = s.ring := rfl
@[simp] theorem State.setZone_settings (s : State) (z : Fin 4) (r : Zone) : (s.setZone z r).settings = s.settings := rfl
@[simp] theorem State.setZone_sup (s : State) (z : Fin 4) (r : Zone) : (s.setZone z r).sup = s.sup := rfl
@[simp] theorem State.setZone_heat_supply (s : State) (z : Fin 4) (r : Zone) : (s.setZone z r).heat.supply = s.heat.supply := rfl
@[simp] theorem State.setZone_heat_slot (s : State) (z : Fin 4) (r : Zone) : (s.setZone z r).heat.slot = s.heat.slot := rfl
@[simp] theorem State.setZone_heat_runCount (s : State) (z : Fin 4) (r : Zone) :
    (s.setZone z r).heat.runCount = s.heat.runCount := rfl
@[simp] theorem State.setZone_heat_lastCrossing (s : State) (z : Fin 4) (r : Zone) :
    (s.setZone z r).heat.lastCrossing = s.heat.lastCrossing := rfl
@[simp] theorem State.setZone_heat_supplyTimer (s : State) (z : Fin 4) (r : Zone) :
    (s.setZone z r).heat.supplyTimer = s.heat.supplyTimer := rfl
@[simp] theorem State.setZone_heat_mode (s : State) (z : Fin 4) (r : Zone) : (s.setZone z r).heat.mode = s.heat.mode := rfl
@[simp] theorem State.setZone_heat_page (s : State) (z : Fin 4) (r : Zone) : (s.setZone z r).heat.page = s.heat.page := rfl
@[simp] theorem State.setZone_heat_pending (s : State) (z : Fin 4) (r : Zone) :
    (s.setZone z r).heat.pending = s.heat.pending := rfl
@[simp] theorem State.setZone_heat_rotationStart (s : State) (z : Fin 4) (r : Zone) :
    (s.setZone z r).heat.rotationStart = s.heat.rotationStart := rfl
@[simp] theorem State.setZone_heat_sensorTimer (s : State) (z : Fin 4) (r : Zone) :
    (s.setZone z r).heat.sensorTimer = s.heat.sensorTimer := rfl

/-! A change of the zone records touches them alone. -/

@[simp] theorem State.mapZones_now (s : State) (f : Fin 4 → Zone → Zone) : (s.mapZones f).now = s.now := rfl
@[simp] theorem State.mapZones_pending (s : State) (f : Fin 4 → Zone → Zone) : (s.mapZones f).pending = s.pending := rfl
@[simp] theorem State.mapZones_phase (s : State) (f : Fin 4 → Zone → Zone) : (s.mapZones f).phase = s.phase := rfl
@[simp] theorem State.mapZones_pins (s : State) (f : Fin 4 → Zone → Zone) : (s.mapZones f).pins = s.pins := rfl
@[simp] theorem State.mapZones_identity (s : State) (f : Fin 4 → Zone → Zone) : (s.mapZones f).identity = s.identity := rfl
@[simp] theorem State.mapZones_line (s : State) (f : Fin 4 → Zone → Zone) : (s.mapZones f).line = s.line := rfl
@[simp] theorem State.mapZones_travel (s : State) (f : Fin 4 → Zone → Zone) : (s.mapZones f).travel = s.travel := rfl
@[simp] theorem State.mapZones_load (s : State) (f : Fin 4 → Zone → Zone) : (s.mapZones f).load = s.load := rfl
@[simp] theorem State.mapZones_level (s : State) (f : Fin 4 → Zone → Zone) : (s.mapZones f).level = s.level := rfl
@[simp] theorem State.mapZones_feed (s : State) (f : Fin 4 → Zone → Zone) : (s.mapZones f).feed = s.feed := rfl
@[simp] theorem State.mapZones_rows (s : State) (f : Fin 4 → Zone → Zone) : (s.mapZones f).rows = s.rows := rfl
@[simp] theorem State.mapZones_ring (s : State) (f : Fin 4 → Zone → Zone) : (s.mapZones f).ring = s.ring := rfl
@[simp] theorem State.mapZones_settings (s : State) (f : Fin 4 → Zone → Zone) : (s.mapZones f).settings = s.settings := rfl
@[simp] theorem State.mapZones_sup (s : State) (f : Fin 4 → Zone → Zone) : (s.mapZones f).sup = s.sup := rfl
@[simp] theorem State.mapZones_heat_supply (s : State) (f : Fin 4 → Zone → Zone) :
    (s.mapZones f).heat.supply = s.heat.supply := rfl
@[simp] theorem State.mapZones_heat_slot (s : State) (f : Fin 4 → Zone → Zone) : (s.mapZones f).heat.slot = s.heat.slot := rfl
@[simp] theorem State.mapZones_heat_runCount (s : State) (f : Fin 4 → Zone → Zone) :
    (s.mapZones f).heat.runCount = s.heat.runCount := rfl
@[simp] theorem State.mapZones_heat_lastCrossing (s : State) (f : Fin 4 → Zone → Zone) :
    (s.mapZones f).heat.lastCrossing = s.heat.lastCrossing := rfl
@[simp] theorem State.mapZones_heat_supplyTimer (s : State) (f : Fin 4 → Zone → Zone) :
    (s.mapZones f).heat.supplyTimer = s.heat.supplyTimer := rfl
@[simp] theorem State.mapZones_heat_mode (s : State) (f : Fin 4 → Zone → Zone) : (s.mapZones f).heat.mode = s.heat.mode := rfl
@[simp] theorem State.mapZones_heat_page (s : State) (f : Fin 4 → Zone → Zone) : (s.mapZones f).heat.page = s.heat.page := rfl
@[simp] theorem State.mapZones_heat_pending (s : State) (f : Fin 4 → Zone → Zone) :
    (s.mapZones f).heat.pending = s.heat.pending := rfl
@[simp] theorem State.mapZones_heat_rotationStart (s : State) (f : Fin 4 → Zone → Zone) :
    (s.mapZones f).heat.rotationStart = s.heat.rotationStart := rfl
@[simp] theorem State.mapZones_heat_sensorTimer (s : State) (f : Fin 4 → Zone → Zone) :
    (s.mapZones f).heat.sensorTimer = s.heat.sensorTimer := rfl

/-! A change of the collection record leaves the ring record. -/

@[simp] theorem State.setCollection_now (s : State) (c : Collection) : (s.setCollection c).now = s.now := rfl
@[simp] theorem State.setCollection_pending (s : State) (c : Collection) : (s.setCollection c).pending = s.pending := rfl
@[simp] theorem State.setCollection_phase (s : State) (c : Collection) : (s.setCollection c).phase = s.phase := rfl
@[simp] theorem State.setCollection_pins (s : State) (c : Collection) : (s.setCollection c).pins = s.pins := rfl
@[simp] theorem State.setCollection_identity (s : State) (c : Collection) : (s.setCollection c).identity = s.identity := rfl
@[simp] theorem State.setCollection_line (s : State) (c : Collection) : (s.setCollection c).line = s.line := rfl
@[simp] theorem State.setCollection_travel (s : State) (c : Collection) : (s.setCollection c).travel = s.travel := rfl
@[simp] theorem State.setCollection_heat (s : State) (c : Collection) : (s.setCollection c).heat = s.heat := rfl
@[simp] theorem State.setCollection_load (s : State) (c : Collection) : (s.setCollection c).load = s.load := rfl
@[simp] theorem State.setCollection_level (s : State) (c : Collection) : (s.setCollection c).level = s.level := rfl
@[simp] theorem State.setCollection_feed (s : State) (c : Collection) : (s.setCollection c).feed = s.feed := rfl
@[simp] theorem State.setCollection_rows (s : State) (c : Collection) : (s.setCollection c).rows = s.rows := rfl
@[simp] theorem State.setCollection_settings (s : State) (c : Collection) : (s.setCollection c).settings = s.settings := rfl
@[simp] theorem State.setCollection_sup (s : State) (c : Collection) : (s.setCollection c).sup = s.sup := rfl
@[simp] theorem State.setCollection_ring_rows (s : State) (c : Collection) : (s.setCollection c).ring.rows = s.ring.rows := rfl
@[simp] theorem State.setCollection_ring_next (s : State) (c : Collection) : (s.setCollection c).ring.next = s.ring.next := rfl
@[simp] theorem State.setCollection_ring_closed (s : State) (c : Collection) :
    (s.setCollection c).ring.closed = s.ring.closed := rfl
@[simp] theorem State.setCollection_ring_dropped (s : State) (c : Collection) :
    (s.setCollection c).ring.dropped = s.ring.dropped := rfl
@[simp] theorem State.setCollection_ring_overwritten (s : State) (c : Collection) :
    (s.setCollection c).ring.overwritten = s.ring.overwritten := rfl
@[simp] theorem State.setCollection_ring_released (s : State) (c : Collection) :
    (s.setCollection c).ring.released = s.ring.released := rfl
@[simp] theorem State.setCollection_ring_mode (s : State) (c : Collection) : (s.setCollection c).ring.mode = s.ring.mode := rfl

/-! A change of a drive record leaves the rest of the part. -/

@[simp] theorem State.setDrive_now (s : State) (d : Drive) (r : DriveRecord) : (s.setDrive d r).now = s.now := rfl
@[simp] theorem State.setDrive_pending (s : State) (d : Drive) (r : DriveRecord) : (s.setDrive d r).pending = s.pending := rfl
@[simp] theorem State.setDrive_phase (s : State) (d : Drive) (r : DriveRecord) : (s.setDrive d r).phase = s.phase := rfl
@[simp] theorem State.setDrive_pins (s : State) (d : Drive) (r : DriveRecord) : (s.setDrive d r).pins = s.pins := rfl
@[simp] theorem State.setDrive_identity (s : State) (d : Drive) (r : DriveRecord) : (s.setDrive d r).identity = s.identity := rfl
@[simp] theorem State.setDrive_line (s : State) (d : Drive) (r : DriveRecord) : (s.setDrive d r).line = s.line := rfl
@[simp] theorem State.setDrive_travel (s : State) (d : Drive) (r : DriveRecord) : (s.setDrive d r).travel = s.travel := rfl
@[simp] theorem State.setDrive_heat (s : State) (d : Drive) (r : DriveRecord) : (s.setDrive d r).heat = s.heat := rfl
@[simp] theorem State.setDrive_load (s : State) (d : Drive) (r : DriveRecord) : (s.setDrive d r).load = s.load := rfl
@[simp] theorem State.setDrive_level (s : State) (d : Drive) (r : DriveRecord) : (s.setDrive d r).level = s.level := rfl
@[simp] theorem State.setDrive_rows (s : State) (d : Drive) (r : DriveRecord) : (s.setDrive d r).rows = s.rows := rfl
@[simp] theorem State.setDrive_ring (s : State) (d : Drive) (r : DriveRecord) : (s.setDrive d r).ring = s.ring := rfl
@[simp] theorem State.setDrive_settings (s : State) (d : Drive) (r : DriveRecord) : (s.setDrive d r).settings = s.settings := rfl
@[simp] theorem State.setDrive_sup (s : State) (d : Drive) (r : DriveRecord) : (s.setDrive d r).sup = s.sup := rfl

/-! A cut leaves the rest of the part (R97). -/

@[simp] theorem State.cutValve_now (s : State) : (s.cutValve).now = s.now := rfl
@[simp] theorem State.cutValve_pending (s : State) : (s.cutValve).pending = s.pending := rfl
@[simp] theorem State.cutValve_phase (s : State) : (s.cutValve).phase = s.phase := rfl
@[simp] theorem State.cutValve_pins (s : State) : (s.cutValve).pins = s.pins := rfl
@[simp] theorem State.cutValve_identity (s : State) : (s.cutValve).identity = s.identity := rfl
@[simp] theorem State.cutValve_line (s : State) : (s.cutValve).line = s.line := rfl
@[simp] theorem State.cutValve_travel (s : State) : (s.cutValve).travel = s.travel := rfl
@[simp] theorem State.cutValve_heat (s : State) : (s.cutValve).heat = s.heat := rfl
@[simp] theorem State.cutValve_load (s : State) : (s.cutValve).load = s.load := rfl
@[simp] theorem State.cutValve_feed (s : State) : (s.cutValve).feed = s.feed := rfl
@[simp] theorem State.cutValve_rows (s : State) : (s.cutValve).rows = s.rows := rfl
@[simp] theorem State.cutValve_ring (s : State) : (s.cutValve).ring = s.ring := rfl
@[simp] theorem State.cutValve_settings (s : State) : (s.cutValve).settings = s.settings := rfl
@[simp] theorem State.cutValve_sup (s : State) : (s.cutValve).sup = s.sup := rfl

end Sys2Proof.Machine
end

