-- ==== Sys2Proof/Laws/Frames.lean ====
section
/-! SUPPORT. Which part of the state the shared operations of each block can touch. A frame says that everything outside it is as it
was; frames compose, so that the frame of a whole event follows from those of its parts. -/

namespace Sys2Proof.Machine

/-! ## The Row Builder and the Record Ring -/

/-- Only the rows, the ring and the supervisor's event alarms and offer mark differ: what the Row Builder can touch. -/
def State.RowFrame (s t : State) : Prop :=
  t =
    { s with
      rows := t.rows, ring := t.ring
      sup := { s.sup with events := t.sup.events, offerDue := t.sup.offerDue } }

theorem State.RowFrame.refl (s : State) : State.RowFrame s s := rfl

theorem State.RowFrame.trans {s t u : State} (h : State.RowFrame s t) (k : State.RowFrame t u) : State.RowFrame s u := by
  unfold State.RowFrame at *
  rw [h] at k
  exact k

theorem State.RowFrame.rows (s : State) (r : Rows) : State.RowFrame s { s with rows := r } := rfl

theorem State.noteTrip_frame (s : State) : State.RowFrame s s.noteTrip := rfl
theorem State.scannerSilent_frame (s : State) : State.RowFrame s s.scannerSilent := rfl
theorem State.markTravel_frame (s : State) : State.RowFrame s s.markTravel := rfl
theorem State.handChainage_frame (s : State) : State.RowFrame s s.handChainage := rfl

theorem State.takeSweep_frame (s : State) (good : Bool) (spots : List Int) : State.RowFrame s (s.takeSweep good spots) := by
  unfold State.takeSweep
  split_ifs <;> rfl

theorem State.commitRow_frame (s : State) (row : Row) : State.RowFrame s (s.commitRow row) := by
  unfold State.commitRow
  split_ifs <;> rfl

theorem State.applyRecordPage_frame (s : State) : State.RowFrame s s.applyRecordPage := by
  unfold State.applyRecordPage
  split_ifs
  · split <;> rfl
  · rfl

theorem State.tryOpenRow_frame (s : State) : State.RowFrame s s.tryOpenRow := by
  unfold State.tryOpenRow
  split
  · split_ifs <;> rfl
  · rfl

theorem State.endRow_frame (s : State) : State.RowFrame s s.endRow := by
  unfold State.endRow
  exact ((s.applyRecordPage_frame).trans (.rows _ _)).trans (State.tryOpenRow_frame _)

theorem State.closeKept_frame (s : State) (r : OpenRow) (page : RecordPage) (cause : CloseCause) (length : Nat) :
    State.RowFrame s (s.closeKept r page cause length) := by
  unfold State.closeKept
  exact ((s.commitRow_frame _).trans (.rows _ _)).trans (State.endRow_frame _)

theorem State.closeEarly_frame (s : State) (r : OpenRow) (cause : CloseCause) : State.RowFrame s (s.closeEarly r cause) := by
  unfold State.closeEarly
  dsimp only
  split
  · split_ifs
    · exact s.endRow_frame
    · exact s.closeKept_frame _ _ _ _
  · exact s.endRow_frame

theorem State.closeAtEnd_frame (s : State) : State.RowFrame s s.closeAtEnd := by
  unfold State.closeAtEnd
  split
  · split_ifs
    · exact (State.RowFrame.rows s _).trans (State.closeKept_frame _ _ _ _ _)
    · rfl
  · rfl

theorem State.parkRows_frame (s : State) : State.RowFrame s s.parkRows := by
  have closed : State.RowFrame s
      (match s.rows.openRow with
        | some r =>
          ({ s with
              rows :=
                s.rows.marked (max (s.rows.highWater.getD s.rows.lastChainage) s.rows.lastChainage)
                  (max r.start s.rows.lastChainage) } : State).closeEarly r .park
        | none => s) := by
    split
    · exact (State.RowFrame.rows s _).trans (State.closeEarly_frame _ _ _)
    · exact .refl s
  exact closed.trans (.rows _ _)

theorem State.wakeRows_frame (s : State) : State.RowFrame s s.wakeRows := by
  unfold State.wakeRows
  split_ifs <;> rfl

theorem State.rebaseRows_frame (s : State) : State.RowFrame s s.rebaseRows := by
  have closed : State.RowFrame s
      (match s.rows.openRow with
        | some r => s.closeEarly r .rebase
        | none => s) := by
    split
    · exact s.closeEarly_frame _ _
    · exact .refl s
  exact (closed.trans (.rows _ _)).trans (State.handChainage_frame _)

theorem State.chainageToRows_frame (s : State) (before : Travel) (rebased : Bool) :
    State.RowFrame s (s.chainageToRows before rebased) := by
  unfold State.chainageToRows
  split_ifs
  · exact s.rebaseRows_frame
  · exact .refl s
  · exact s.handChainage_frame.trans (State.closeAtEnd_frame _)

/-- What the Travel Unit hands the Row Builder touches the rows and the ring alone (R34). -/
theorem State.travelToRows_frame (s : State) (before : Travel) (rebased : Bool) :
    State.RowFrame s (s.travelToRows before rebased) := by
  unfold State.travelToRows
  split_ifs
  · exact s.chainageToRows_frame before rebased
  · exact (s.markTravel_frame.trans (State.chainageToRows_frame _ _ _)).trans (State.tryOpenRow_frame _)
  · exact .refl s

/-! ## The Levelling Controller -/

/-- Only the side and valve driver records and the supervisor's offer mark differ. -/
def State.LevelFrame (s t : State) : Prop := t = { s with level := t.level, sup := { s.sup with offerDue := t.sup.offerDue } }

theorem State.LevelFrame.refl (s : State) : State.LevelFrame s s := rfl

theorem State.LevelFrame.trans {s t u : State} (h : State.LevelFrame s t) (k : State.LevelFrame t u) :
    State.LevelFrame s u := by
  unfold State.LevelFrame at *
  rw [h] at k
  exact k

theorem State.LevelFrame.level (s : State) (l : Levelling) : State.LevelFrame s { s with level := l } := rfl

theorem State.testSettle_frame (s : State) : State.LevelFrame s s.testSettle := by
  unfold State.testSettle
  split
  · split_ifs <;> rfl
  · rfl

theorem State.leavePaving_frame (s : State) : State.LevelFrame s s.leavePaving := by
  unfold State.leavePaving
  split_ifs
  · split <;> rfl
  · rfl

theorem State.returnToPaving_frame (s : State) : State.LevelFrame s s.returnToPaving := by
  unfold State.returnToPaving
  split_ifs <;> rfl

/-- What the Travel Unit hands the Levelling Controller touches the side alone (R34). -/
theorem State.travelToLevel_frame (s : State) (before : Travel) : State.LevelFrame s (s.travelToLevel before) := by
  unfold State.travelToLevel
  split_ifs
  · exact s.leavePaving_frame
  · exact s.returnToPaving_frame
  · exact s.testSettle_frame
  · rfl
  · rfl

theorem State.applyLevelPage_frame (s : State) : State.LevelFrame s s.applyLevelPage := by
  unfold State.applyLevelPage
  split_ifs
  · split <;> rfl
  · rfl

theorem State.captureLate_frame (s : State) : State.LevelFrame s s.captureLate := by
  unfold State.captureLate
  split_ifs
  · split <;> rfl
  · rfl

theorem State.judgeSide_frame (s : State) : State.LevelFrame s s.judgeSide := by
  unfold State.judgeSide
  dsimp only
  split_ifs <;> rfl

theorem State.runControlLaw_frame (s : State) : State.LevelFrame s s.runControlLaw := by
  unfold State.runControlLaw
  split_ifs <;> rfl

/-- A period start touches the side alone (R92). -/
theorem State.startPeriod_frame (s : State) : State.LevelFrame s s.startPeriod := by
  unfold State.startPeriod
  exact (State.LevelFrame.level s _).trans
    (((State.applyLevelPage_frame _).trans (State.captureLate_frame _)).trans
      ((State.judgeSide_frame _).trans (State.runControlLaw_frame _)))

theorem State.setSideMode_frame (s : State) (m : SideMode) : State.LevelFrame s (s.setSideMode m) := by
  unfold State.setSideMode
  split_ifs <;> rfl

theorem State.takeLevellingReading_frame (s : State) (sensor : LevellingSensor) (r : Reading) :
    State.LevelFrame s (s.takeLevellingReading sensor r) := by
  unfold State.takeLevellingReading
  dsimp only
  split_ifs <;> rfl

/-! ## The Travel Unit -/

/-- Only the travel record, the side, the rows, the ring and the supervisor's event alarms and offer mark differ: what an event of the
Travel Unit can touch (R34). -/
def State.TravelFrame (s t : State) : Prop :=
  t =
    { s with
      travel := t.travel, level := t.level, rows := t.rows, ring := t.ring
      sup := { s.sup with events := t.sup.events, offerDue := t.sup.offerDue } }

theorem State.TravelFrame.refl (s : State) : State.TravelFrame s s := rfl

theorem State.TravelFrame.trans {s t u : State} (h : State.TravelFrame s t) (k : State.TravelFrame t u) :
    State.TravelFrame s u := by
  unfold State.TravelFrame at *
  rw [h] at k
  exact k

theorem State.TravelFrame.travel (s : State) (t : Travel) : State.TravelFrame s { s with travel := t } := rfl

theorem State.LevelFrame.toTravelFrame {s t : State} (h : State.LevelFrame s t) : State.TravelFrame s t := by
  unfold State.LevelFrame at h
  rw [h]
  rfl

theorem State.RowFrame.toTravelFrame {s t : State} (h : State.RowFrame s t) : State.TravelFrame s t := by
  unfold State.RowFrame at h
  rw [h]
  rfl

theorem State.setTravel_frame (s : State) (t : Travel) (rebased : Bool) : State.TravelFrame s (s.setTravel t rebased) :=
  ((State.TravelFrame.travel s t).trans (State.travelToLevel_frame _ _).toTravelFrame).trans
    (State.travelToRows_frame _ _ _).toTravelFrame

/-- The travel record that is set is the one handed on. -/
@[simp] theorem State.setTravel_travel (s : State) (t : Travel) (rebased : Bool) : (s.setTravel t rebased).travel = t := by
  have h1 := State.travelToLevel_frame ({ s with travel := t } : State) s.travel
  have h2 := State.travelToRows_frame (({ s with travel := t } : State).travelToLevel s.travel) s.travel rebased
  unfold State.setTravel
  rw [h2]
  show (({ s with travel := t } : State).travelToLevel s.travel).travel = t
  rw [h1]

/-- At a station with neither a side to level nor a scanner the travel record is all that a travel event sets. -/
theorem State.setTravel_of_inert (s : State) (t : Travel) (rebased : Bool) (hl : s.levelling = false)
    (hs : s.straps.scanner = false) : s.setTravel t rebased = { s with travel := t } := by
  have h1 : ({ s with travel := t } : State).travelToLevel s.travel = { s with travel := t } := by
    unfold State.travelToLevel
    rw [if_neg]
    exact fun h => Bool.noConfusion (hl.symm.trans h)
  unfold State.setTravel
  rw [h1]
  unfold State.travelToRows
  rw [if_neg]
  exact fun h => Bool.noConfusion (hs.symm.trans h)

/-! ## The Heater Controller and the Load Share Unit -/

/-- Only the heater, the generator share, the rows, the transmit queue and the supervisor's offer mark differ: what an event of the
heater can touch. -/
def State.HeatFrame (s t : State) : Prop :=
  t =
    { s with
      heat := t.heat, load := t.load, rows := { s.rows with openRow := t.rows.openRow }
      line := { s.line with queue := t.line.queue }, sup := { s.sup with offerDue := t.sup.offerDue } }

theorem State.HeatFrame.refl (s : State) : State.HeatFrame s s := rfl

theorem State.HeatFrame.trans {s t u : State} (h : State.HeatFrame s t) (k : State.HeatFrame t u) : State.HeatFrame s u := by
  unfold State.HeatFrame at *
  rw [h] at k
  exact k

theorem State.HeatFrame.heat (s : State) (h : Heat) : State.HeatFrame s { s with heat := h } := rfl
theorem State.HeatFrame.load (s : State) (l : Load) : State.HeatFrame s { s with load := l } := rfl

theorem State.setZone_frame (s : State) (z : Fin 4) (r : Zone) : State.HeatFrame s (s.setZone z r) := rfl
theorem State.mapZones_frame (s : State) (f : Fin 4 → Zone → Zone) : State.HeatFrame s (s.mapZones f) := rfl
theorem State.tripZone_frame (s : State) (z : Fin 4) (c : TripCause) : State.HeatFrame s (s.tripZone z c) := rfl
theorem State.offer_frame (s : State) (c : Content) : State.HeatFrame s (s.offer c) := rfl
theorem State.offerShedAck_frame (s : State) : State.HeatFrame s s.offerShedAck := rfl

theorem State.judgeZone_frame (s : State) (z : Fin 4) : State.HeatFrame s (s.judgeZone z) := by
  unfold State.judgeZone
  split_ifs
  · split
    · exact s.tripZone_frame _ _
    · rfl
  · rfl

theorem State.clearZone_frame (s : State) (z : Fin 4) : State.HeatFrame s (s.clearZone z) := by
  unfold State.clearZone
  split
  · split_ifs
    · exact (s.setZone_frame _ _).trans (State.judgeZone_frame _ _)
    · rfl
  · rfl

theorem State.judgeOpen_frame (s : State) (z : Fin 4) : State.HeatFrame s (s.judgeOpen z) := by
  unfold State.judgeOpen
  dsimp only
  split_ifs <;> rfl

/-- An operation within the frame, done on each zone in turn, stays within it. -/
theorem State.forZones_frame (s : State) (f : State → Fin 4 → State) (h : ∀ t z, State.HeatFrame t (f t z)) :
    State.HeatFrame s (s.forZones f) :=
  (((h s 0).trans (h _ 1)).trans (h _ 2)).trans (h _ 3)

theorem State.clearTrips_frame (s : State) : State.HeatFrame s s.clearTrips :=
  s.forZones_frame _ fun t z => t.clearZone_frame z

theorem State.applyHeatPage_frame (s : State) : State.HeatFrame s s.applyHeatPage := by
  unfold State.applyHeatPage
  split_ifs
  · split <;> rfl
  · rfl

theorem State.settleShed_frame (s : State) : State.HeatFrame s s.settleShed := by
  unfold State.settleShed
  dsimp only
  split
  · split_ifs <;> rfl
  all_goals rfl

theorem State.demandZones_frame (s : State) : State.HeatFrame s s.demandZones := rfl

theorem State.takeShare_frame (s : State) : State.HeatFrame s s.takeShare := by
  unfold State.takeShare
  dsimp only
  split_ifs <;> rfl

theorem State.setOutputs_frame (s : State) : State.HeatFrame s s.setOutputs := rfl

theorem State.loadWindow_frame (s : State) : State.HeatFrame s s.loadWindow := rfl

theorem State.rotate_frame (s : State) : State.HeatFrame s s.rotate := by
  unfold State.rotate
  split_ifs <;> rfl

theorem State.beginWindow_frame (s : State) : State.HeatFrame s s.beginWindow := by
  unfold State.beginWindow
  exact ((((s.applyHeatPage_frame.trans (State.settleShed_frame _)).trans (State.demandZones_frame _)).trans
    (State.takeShare_frame _)).trans (State.loadWindow_frame _)).trans (State.rotate_frame _)

theorem State.judgeSag_frame (s : State) (rms : Nat) : State.HeatFrame s (s.judgeSag rms) := by
  unfold State.judgeSag
  split <;> rfl

theorem State.judgeWindow_frame (s : State) (rms : Nat) : State.HeatFrame s (s.judgeWindow rms) :=
  (s.forZones_frame _ fun t z => t.judgeOpen_frame z).trans (State.judgeSag_frame _ _)

theorem State.takeCrossing_frame (s : State) (rms : Nat) (peak : Quad Nat) : State.HeatFrame s (s.takeCrossing rms peak) := by
  unfold State.takeCrossing
  have timed : ∀ t : State, State.HeatFrame t t.timeCrossing := fun _ => rfl
  refine State.HeatFrame.trans ?_ (timed _)
  split_ifs
  · unfold State.crossRunning
    dsimp only
    split_ifs
    · rfl
    · exact ((s.mapZones_frame _).trans (State.judgeWindow_frame _ _)).trans (State.beginWindow_frame _)
  · unfold State.crossWaiting
    split_ifs
    · exact ((State.HeatFrame.heat s _).trans (.load _ _)).trans (State.beginWindow_frame _)
    · rfl

theorem State.loadNoSupply_frame (s : State) : State.HeatFrame s s.loadNoSupply := by
  unfold State.loadNoSupply
  dsimp only
  split <;> rfl

theorem State.loseSupply_frame (s : State) : State.HeatFrame s s.loseSupply := by
  unfold State.loseSupply
  dsimp only
  refine State.HeatFrame.trans ?_ ((State.applyHeatPage_frame _).trans (State.loadNoSupply_frame _))
  split_ifs <;> rfl

theorem State.supplyExpired_frame (s : State) : State.HeatFrame s s.supplyExpired := by
  unfold State.supplyExpired
  split_ifs
  · rfl
  · exact s.loseSupply_frame

theorem State.setHeatingMode_frame (s : State) (on : Bool) : State.HeatFrame s (s.setHeatingMode on) := by
  unfold State.setHeatingMode
  dsimp only
  split_ifs
  · rfl
  · exact (State.HeatFrame.heat s _).trans (State.clearTrips_frame _)
  · exact (State.HeatFrame.heat s _).trans (State.mapZones_frame _ _)

theorem State.takeShedAll_frame (s : State) : State.HeatFrame s s.takeShedAll := by
  unfold State.takeShedAll
  split
  · split_ifs <;> rfl
  all_goals first | rfl | (split <;> rfl)

theorem State.takeRestore_frame (s : State) : State.HeatFrame s s.takeRestore := by
  unfold State.takeRestore
  split_ifs <;> rfl

theorem State.samplePlates_frame (s : State) (samples : Quad Reading) : State.HeatFrame s (s.samplePlates samples) := by
  unfold State.samplePlates
  dsimp only
  refine (State.HeatFrame.heat s _).trans (State.forZones_frame _ _ fun t z => ?_)
  split_ifs
  · exact (t.setZone_frame _ _).trans (State.judgeZone_frame _ _)
  · rfl

theorem State.watchCurrent_frame (s : State) (z : Fin 4) (current : Nat) : State.HeatFrame s (s.watchCurrent z current) := by
  unfold State.watchCurrent
  split_ifs
  · exact s.tripZone_frame _ _
  · rfl

/-! ## The Feed Controller -/

/-- Only the Feed Controller's records and the supervisor's offer mark differ. -/
def State.FeedFrame (s t : State) : Prop := t = { s with feed := t.feed, sup := { s.sup with offerDue := t.sup.offerDue } }

/-- A control period touches the Feed Controller alone (R121). -/
theorem State.controlDrives_frame (s : State) : State.FeedFrame s s.controlDrives := by
  unfold State.controlDrives State.applyFeedPage
  dsimp only
  split_ifs
  · split <;> rfl
  · rfl

/-! ## The collection -/

/-- Only the collection record and the transmit queue differ. -/
def State.CollectFrame (s t : State) : Prop :=
  t =
    { s with
      ring := { s.ring with collection := t.ring.collection }, line := { s.line with queue := t.line.queue } }

theorem State.CollectFrame.trans {s t u : State} (h : State.CollectFrame s t) (k : State.CollectFrame t u) :
    State.CollectFrame s u := by
  unfold State.CollectFrame at *
  rw [h] at k
  exact k

theorem State.setCollection_frame (s : State) (c : Collection) : State.CollectFrame s (s.setCollection c) := rfl

theorem State.offerAnswer_frame (s : State) : State.CollectFrame s s.offerAnswer := by
  unfold State.offerAnswer
  dsimp only
  split_ifs
  · rfl
  · split <;> rfl

theorem State.offerNextRecord_frame (s : State) : State.CollectFrame s s.offerNextRecord := by
  unfold State.offerNextRecord
  dsimp only
  split
  · split_ifs
    · exact (s.setCollection_frame _).trans (State.offerAnswer_frame _)
    · split
      · exact (s.setCollection_frame _).trans (State.offerAnswer_frame _)
      · rfl
  · rfl

theorem State.takeCollect_frame (s : State) (sender : Fin 16) (first : Word32) (count : Nat) :
    State.CollectFrame s (s.takeCollect sender first count) := by
  unfold State.takeCollect
  dsimp only
  split_ifs
  · exact (s.setCollection_frame _).trans (State.offerAnswer_frame _)
  · split
    · exact (s.setCollection_frame _).trans (State.offerNextRecord_frame _)
    · exact (s.setCollection_frame _).trans (State.offerAnswer_frame _)

theorem State.recordSent_frame (s : State) : State.CollectFrame s s.recordSent := by
  unfold State.recordSent
  dsimp only
  split_ifs
  · exact (s.setCollection_frame _).trans (State.offerNextRecord_frame _)
  · rfl

theorem State.collectEndSent_frame (s : State) (outcome : CollectOutcome) : State.CollectFrame s (s.collectEndSent outcome) := by
  unfold State.collectEndSent
  dsimp only
  split_ifs <;> exact (s.setCollection_frame _).trans (State.offerAnswer_frame _)

end Sys2Proof.Machine
end

