-- ==== Sys2Proof/Laws/Blocks.lean ====
section
/-! SUPPORT. What the shared operations of the Travel Unit, the Levelling Controller, the Feed Controller, the Row Builder, the Settings
Store and the bulletin formats do, said once each. -/

namespace Sys2Proof.Machine

/-! ## Travel -/

theorem forwardPulse_eq (m c p : Nat) :
    forwardPulse m c p =
      if m + 100 < p then (m + 100, c) else if 2147483647 ≤ c then (p - 1, c) else (m + 100 - p, c + 1) := rfl

/-- Moving the chainage changes the state, the mark and the stop timer, and nothing else. -/
theorem Travel.moveTo_keeps (t : Travel) (c now : Nat) :
    (t.moveTo c now).chainage = c ∧ (t.moveTo c now).remainder = t.remainder ∧ (t.moveTo c now).currentBin = t.currentBin ∧
      (t.moveTo c now).epoch = t.epoch ∧ (t.moveTo c now).steps = t.steps ∧ (t.moveTo c now).page = t.page := by
  unfold Travel.moveTo
  split_ifs with same
  · subst same
    simp
  · unfold Travel.testState Travel.enterPaving Travel.enter
    dsimp only
    split <;> (try split_ifs) <;> simp
  · simp [Travel.enter]

/-- A travel record with the same chainage and state reaches no other block. -/
theorem State.setTravel_of_still {s : State} {t : Travel} (hc : t.chainage = s.travel.chainage) (hs : t.state = s.travel.state) :
    s.setTravel t false = { s with travel := t } := by
  unfold State.setTravel State.travelToLevel State.travelToRows State.chainageToRows
  simp [hc, hs]

/-- What the Levelling Controller makes of a new travel record does not rest on what the Row Builder makes of it. -/
theorem State.setTravel_level (s : State) (t : Travel) (rebased : Bool) :
    (s.setTravel t rebased).level = (({ s with travel := t } : State).travelToLevel s.travel).level := by
  have frame := (({ s with travel := t } : State).travelToLevel s.travel).travelToRows_frame s.travel rebased
  unfold State.RowFrame at frame
  unfold State.setTravel
  rw [frame]

/-- The first found along a rising list of stations is the lowest one. -/
theorem head_filterMap_least {α : Type} (f : Fin 8 → Option α) :
    ∀ l : List (Fin 8), l.Pairwise (· < ·) → ∀ n c,
      (l.filterMap fun n => (f n).map fun c => (n, c)).head? = some (n, c) →
      n ∈ l ∧ f n = some c ∧ ∀ k ∈ l, k < n → f k = none
  | [], _, n, c, h => by simp at h
  | a :: l, hp, n, c, h => by
    rw [List.pairwise_cons] at hp
    cases ha : f a with
    | some x =>
      simp [ha] at h
      obtain ⟨rfl, rfl⟩ := h
      refine ⟨by simp, ha, fun k hk less => ?_⟩
      rcases List.mem_cons.1 hk with rfl | hk
      · exact absurd less (lt_irrefl _)
      · exact absurd (hp.1 k hk) (not_lt_of_gt less)
    | none =>
      simp only [List.filterMap_cons, ha, Option.map_none] at h
      obtain ⟨mem, found, lower⟩ := head_filterMap_least f l hp.2 n c h
      refine ⟨List.mem_cons_of_mem _ mem, found, fun k hk less => ?_⟩
      rcases List.mem_cons.1 hk with rfl | hk
      · exact ha
      · exact lower k hk less

/-- The source choice is the lowest station that is a candidate (R30). -/
theorem State.sourceChoice_some {s : State} {n : Fin 8} {c : TravelContent} (h : s.sourceChoice = some (n, c)) :
    s.candidate n = some c ∧ ∀ k < n, s.candidate k = none := by
  obtain ⟨-, found, lower⟩ := head_filterMap_least s.candidate stations (by decide) n c h
  exact ⟨found, fun k => lower k (by revert k; decide)⟩

theorem State.sourceChoice_none {s : State} (h : s.sourceChoice = none) (k : Fin 8) : s.candidate k = none := by
  unfold State.sourceChoice at h
  rw [List.head?_eq_none_iff, List.filterMap_eq_nil_iff] at h
  have mem : k ∈ stations := by
    revert k
    decide
  simpa using h k mem

/-! ## Levelling -/

/-- The dead time in force: the applied page's, or 500 ms without one (R94). -/
theorem Levelling.deadTime_eq (l : Levelling) :
    l.deadTime =
      match l.page with
      | some page => 10 * page.deadTime
      | none => 5000 := by
  unfold Levelling.deadTime
  cases l.page <;> rfl

/-- A cut leaves no coil energised (R97). -/
theorem Levelling.cut_energised (l : Levelling) (now : Nat) : (l.cut now).driver.energised = none := by
  unfold Levelling.cut Driver.afterCut
  cases l.driver <;> simp [Driver.energised, coilOff]
  split_ifs <;> rfl

/-- A neutral request leaves no coil energised (R95). -/
theorem Driver.neutralRequest_energised (d : Driver) (deadTime now : Nat) : (d.neutralRequest deadTime now).energised = none := by
  unfold Driver.neutralRequest
  split <;> simp_all [Driver.energised, coilOff]
  split_ifs <;> rfl

theorem State.applyLevelPage_of_not_pending {s : State} (h : s.level.pending = false) : s.applyLevelPage = s := by
  simp [State.applyLevelPage, h]

/-! ## Feed -/

/-- A control period's move of one drive: by at most 50 toward its target (R124). -/
theorem rateLimited_eq (command target : Nat) :
    rateLimited command target =
      (if command + 50 < target then command + 50 else if target + 50 < command then command - 50 else target) := rfl

/-- The feed law's target as the rule writes it (R123). -/
theorem feedTarget_eq {kff v kl setpoint target : Nat} {level : Int}
    (h : (target : Int) = max 0 (min 1000 (((kff * v / 10 : Nat) : Int) + kl * ((setpoint : Int) - level)))) :
    feedTarget kff v kl setpoint level = target := by
  unfold feedTarget
  rw [clampInt_eq (by decide), ← h]
  simp

/-! ## Rows -/

theorem State.tryOpenRow_ring (s : State) : s.tryOpenRow.ring = s.ring := by
  unfold State.tryOpenRow
  split
  · split_ifs <;> rfl
  · rfl

/-- When a row opens: a page is applied, a scanner is fitted, the station is in RUN and the paver is PAVING (R138). -/
theorem State.tryOpenRow_opens_iff {s : State} (closed : s.rows.openRow = none) :
    s.tryOpenRow.rows.openRow.isSome = true ↔
      s.rows.page.isSome = true ∧ s.straps.scanner = true ∧ s.sup.station = .run ∧ s.travel.state = .paving := by
  unfold State.tryOpenRow
  rw [closed]
  cases hp : s.rows.page with
  | none => simp [closed]
  | some p =>
    dsimp only
    split_ifs with hc
    · simp at hc
      simp [hc]
    · simp at hc
      simp [closed]
      exact hc

theorem State.tryOpenRow_of_not_paving {s : State} (h : s.travel.state ≠ .paving) : s.tryOpenRow = s := by
  unfold State.tryOpenRow
  split
  · rw [if_neg]
    simp [h]
  · rfl

theorem State.tryOpenRow_of_not_run {s : State} (h : s.sup.station ≠ .run) : s.tryOpenRow = s := by
  unfold State.tryOpenRow
  split
  · rw [if_neg]
    simp [h]
  · rfl

/-- A sweep's good spots each enter their own cell (R135). -/
theorem addSpots_get (good : Bool) :
    ∀ (cells : List Cell) (spots : List Int) (i : Nat) (c : Cell) (v : Int), cells[i]? = some c → spots[i]? = some v →
      (addSpots good cells spots)[i]? =
        some
          (match spotReading good v with
            | some t => c.add t
            | none => c)
  | [], _, i, c, v, h, _ => by simp at h
  | _ :: _, [], i, c, v, _, h => by simp at h
  | a :: cells, b :: spots, 0, c, v, h, k => by
    simp at h k
    subst h k
    rfl
  | a :: cells, b :: spots, i + 1, c, v, h, k => by
    simp at h k
    simp [addSpots, addSpots_get good cells spots i c v h k]

/-! ## Settings -/

/-- A page grows stale once its age has passed 10 s (R166). -/
theorem agedPage_some {α : Type} (h : Held α) (now : Nat) :
    agedPage (some h) now = some (if h.since + 100000 < now then { h with stale := true } else h) := by
  simp only [agedPage, Option.map]
  congr 1
  show (if passed h.since 100000 now = true then _ else _) = _
  by_cases old : h.since + 100000 < now
  · rw [if_pos old, if_pos ((passed_iff _ _ _).2 old)]
  · rw [if_neg old, if_neg fun x => old ((passed_iff _ _ _).1 x)]

/-! ## Bulletins -/

theorem byte_toNat (n : Nat) : (byte n).toNat = n % 256 := by simp [byte]

/-- A content's payload has its kind's length (R182). -/
theorem Content.payload_length (c : Content) : payloadLength c.kind.code = some c.payload.length := by
  cases c with
  | level c =>
    cases h : c.owner <;>
      simp [Content.kind, StationKind.code, payloadLength, Content.payload, encodeLevel, encodeOwner, h, encodeDrive, bytes2,
        periodField]
  | status c f =>
    cases h : c.resume <;> cases h2 : c.outcome <;>
      simp [Content.kind, StationKind.code, payloadLength, Content.payload, encodeStatus, encodeResume, encodeOutcome, h, h2,
        bytes2, bytes4, bytes8]
  | record c =>
    simp [Content.kind, StationKind.code, payloadLength, Content.payload, encodeRecord, encodeCells, pair12, bytes2, bytes3,
      bytes4]
  | collectEnd c => simp [Content.kind, StationKind.code, payloadLength, Content.payload, encodeCollectEnd, bytes4]
  | travel c => rfl
  | height c => rfl
  | demand c => rfl
  | shedAck c => rfl

end Sys2Proof.Machine
end

