-- ==== Sys2Proof/Laws/Events.lean ====
section
/-! SUPPORT. What an event taken whole can do: the effect of its blocks, and one STATUS offer when a state that STATUS carries
changed (R171). Each law says once what the wrapper around every meaning does. -/

namespace Sys2Proof.Machine

/-! ## States that differ by a STATUS offer alone -/

theorem State.SameButStatus.refl (s : State) : State.SameButStatus s s := rfl

theorem State.offerStatus_sameButStatus (s : State) : State.SameButStatus s s.offerStatus := rfl

/-- An event ends in the state its blocks left, but for a STATUS offer. -/
theorem State.reported_sameButStatus (before after : State) :
    State.SameButStatus after (State.reported before after) := by
  unfold State.reported
  split
  · exact after.offerStatus_sameButStatus
  · exact .refl after

section
variable {s t : State} (h : State.SameButStatus s t)
include h

theorem State.SameButStatus.now : t.now = s.now := by rw [h]
theorem State.SameButStatus.pending : t.pending = s.pending := by rw [h]
theorem State.SameButStatus.phase : t.phase = s.phase := by rw [h]
theorem State.SameButStatus.pins : t.pins = s.pins := by rw [h]
theorem State.SameButStatus.identity : t.identity = s.identity := by rw [h]
theorem State.SameButStatus.travel : t.travel = s.travel := by rw [h]
theorem State.SameButStatus.heat : t.heat = s.heat := by rw [h]
theorem State.SameButStatus.load : t.load = s.load := by rw [h]
theorem State.SameButStatus.level : t.level = s.level := by rw [h]
theorem State.SameButStatus.feed : t.feed = s.feed := by rw [h]
theorem State.SameButStatus.rows : t.rows = s.rows := by rw [h]
theorem State.SameButStatus.ring : t.ring = s.ring := by rw [h]
theorem State.SameButStatus.settings : t.settings = s.settings := by rw [h]
theorem State.SameButStatus.lineState : t.line.state = s.line.state := by rw [h]
theorem State.SameButStatus.errors : t.line.errors = s.line.errors := by rw [h]
theorem State.SameButStatus.quietTimer : t.line.quietTimer = s.line.quietTimer := by rw [h]
theorem State.SameButStatus.receiveErrors : t.line.receiveErrors = s.line.receiveErrors := by rw [h]
theorem State.SameButStatus.duplicateTimer : t.line.duplicateTimer = s.line.duplicateTimer := by rw [h]
theorem State.SameButStatus.peers : t.line.peers = s.line.peers := by rw [h]
theorem State.SameButStatus.sending : t.line.sending = s.line.sending := by rw [h]
theorem State.SameButStatus.echoed : t.line.echoed = s.line.echoed := by rw [h]
theorem State.SameButStatus.station : t.sup.station = s.sup.station := by rw [h]
theorem State.SameButStatus.option : t.sup.option = s.sup.option := by rw [h]
theorem State.SameButStatus.wakingTimer : t.sup.wakingTimer = s.sup.wakingTimer := by rw [h]
theorem State.SameButStatus.wakeOwed : t.sup.wakeOwed = s.sup.wakeOwed := by rw [h]
theorem State.SameButStatus.resetCause : t.sup.resetCause = s.sup.resetCause := by rw [h]
theorem State.SameButStatus.outcome : t.sup.outcome = s.sup.outcome := by rw [h]
theorem State.SameButStatus.serial : t.sup.serial = s.sup.serial := by rw [h]
theorem State.SameButStatus.events : t.sup.events = s.sup.events := by rw [h]

/-- Every slot of the queue but STATUS's is as it was. -/
theorem State.SameButStatus.slot (k : StationKind) (hk : k ≠ .status) : t.line.queue.get k = s.line.queue.get k := by
  rw [h]
  cases k <;> first | rfl | exact absurd rfl hk

/-- The alarm set is as it was (R170). -/
theorem State.SameButStatus.alarm (a : Alarm) : t.alarm a = s.alarm a := by
  rw [h]
  cases a <;> rfl

/-- The states that STATUS carries are as they were. -/
theorem State.SameButStatus.statusStates : t.statusStates = s.statusStates := by
  have alarms : t.alarms = s.alarms := by
    unfold State.alarms
    exact congrArg (fun f => Alarm.list.filter f) (funext h.alarm)
  unfold State.statusStates
  rw [alarms]
  rw [h]
  rfl

/-- The content that a STATUS would carry is as it was: no field of it shows the queue or the supervisor's own marks (R171). -/
theorem State.SameButStatus.formStatus : t.formStatus = s.formStatus := by
  have alarms : t.alarms = s.alarms := by
    unfold State.alarms
    exact congrArg (fun f => Alarm.list.filter f) (funext h.alarm)
  unfold State.formStatus
  rw [alarms]
  rw [h]
  rfl

end

/-! ## Events -/

/-- While a reset is asserted no event is taken (R178, R179). -/
theorem State.take_of_not_running {s : State} (h : s.phase ≠ .running) (effect : State → State) : s.take effect = s := by
  unfold State.take
  simp [h]

/-- A running part takes an event: its blocks' effect, reported. -/
theorem State.take_of_running {s : State} (h : s.phase = .running) (effect : State → State) :
    s.take effect = State.reported s (effect s) := by
  unfold State.take
  simp [h]

/-- A running part ends an event in the state its blocks left, but for a STATUS offer. -/
theorem State.take_sameButStatus {s : State} (h : s.phase = .running) (effect : State → State) :
    State.SameButStatus (effect s) (s.take effect) := by
  rw [State.take_of_running h]
  exact State.reported_sameButStatus s (effect s)

/-- A timer that is stopped, or whose time has not come, does not expire (assumption 2). -/
theorem State.takeExpiry_of_not_due {s : State} {timer : Option Nat} (h : due timer s.now = false)
    (effect : State → State) : s.takeExpiry timer effect = s := by
  unfold State.takeExpiry
  simp [h]

/-- A timer whose time has come expires: the event is taken. -/
theorem State.takeExpiry_of_due {s : State} {d : Nat} (hd : d ≤ s.now) (effect : State → State) :
    s.takeExpiry (some d) effect = s.take effect := by
  unfold State.takeExpiry due
  simp [hd]

/-- An expiry at a running part ends in the state its blocks left, but for a STATUS offer. -/
theorem State.takeExpiry_sameButStatus {s : State} {timer : Option Nat} {d : Nat} (h : s.phase = .running)
    (ht : timer = some d) (hd : d ≤ s.now) (effect : State → State) :
    State.SameButStatus (effect s) (s.takeExpiry timer effect) := by
  subst ht
  rw [State.takeExpiry_of_due hd]
  exact State.take_sameButStatus h effect

/-- A running part completes an event: whatever holds of every state that differs by a STATUS offer alone from the one its blocks
leave holds of the state it ends in. -/
theorem State.take_reaches {s : State} (h : s.phase = .running) (effect : State → State) {P : State → Prop}
    (hP : ∀ t, State.SameButStatus (effect s) t → P t) :
    ∃ t, (Host.Outcome.next (s.take effect) : Host.Outcome State Fault Refusal) = .next t ∧ P t :=
  ⟨_, rfl, hP _ (State.take_sameButStatus h effect)⟩

/-- The same for an expiry whose time has come. -/
theorem State.takeExpiry_reaches {s : State} {timer : Option Nat} {d : Nat} (h : s.phase = .running)
    (ht : timer = some d) (hd : d ≤ s.now) (effect : State → State) {P : State → Prop}
    (hP : ∀ t, State.SameButStatus (effect s) t → P t) :
    ∃ t, (Host.Outcome.next (s.takeExpiry timer effect) : Host.Outcome State Fault Refusal) = .next t ∧ P t :=
  ⟨_, rfl, hP _ (State.takeExpiry_sameButStatus h ht hd effect)⟩

/-- What an event leaves is what its blocks leave in the part's phase: a STATUS offer changes no phase. -/
theorem State.take_cases (s : State) (effect : State → State) :
    s.take effect = s ∨ (s.phase = .running ∧ State.SameButStatus (effect s) (s.take effect)) := by
  by_cases h : s.phase = .running
  · exact .inr ⟨h, State.take_sameButStatus h effect⟩
  · exact .inl (State.take_of_not_running h effect)

theorem State.takeExpiry_cases (s : State) (timer : Option Nat) (effect : State → State) :
    s.takeExpiry timer effect = s ∨
      (s.phase = .running ∧ (∃ d, timer = some d ∧ d ≤ s.now) ∧
        State.SameButStatus (effect s) (s.takeExpiry timer effect)) := by
  cases timer with
  | none => exact .inl (State.takeExpiry_of_not_due rfl effect)
  | some d =>
    by_cases hd : d ≤ s.now
    · rw [State.takeExpiry_of_due hd]
      rcases s.take_cases effect with h | ⟨h, hs⟩
      · exact .inl h
      · exact .inr ⟨h, ⟨d, rfl, hd⟩, hs⟩
    · exact .inl (State.takeExpiry_of_not_due (by simp [due, hd]) effect)

/-! ## STATUS offers -/

/-- The content a STATUS slot offers last after an offer is the one offered (R12). -/
theorem TxSlot.offered_newest (slot : TxSlot) (c : Content) (p : Nat) : (slot.offered c p).newest = some c := by
  cases slot <;> rfl

/-- After a STATUS offer the slot's newest content is the state's own (R171). -/
theorem State.offerStatus_newest (s : State) :
    s.offerStatus.line.queue.status.newest = some (.status s.formStatus s.sup.formed) :=
  TxSlot.offered_newest _ _ _

/-- A running part that ends an event with a state STATUS carries changed has offered a STATUS (R16, R171). -/
theorem State.reported_newest {before after : State} (hp : after.phase = .running)
    (h : after.sup.offerDue = true ∨ before.statusStates ≠ after.statusStates) :
    (State.reported before after).line.queue.status.newest = some (.status after.formStatus after.sup.formed) := by
  have hc : (after.phase == .running && (after.sup.offerDue || before.statusStates != after.statusStates)) = true := by
    rcases h with h | h <;> simp [hp, h]
  unfold State.reported
  rw [if_pos hc]
  exact after.offerStatus_newest

/-- A running part that changed nothing STATUS carries, and was asked for no offer, is left as it is. -/
theorem State.reported_of_unchanged {before after : State} (h : after.sup.offerDue = false)
    (hs : before.statusStates = after.statusStates) : State.reported before after = after := by
  unfold State.reported
  simp [h, hs]

/-- After an event no STATUS offer is owed, when the blocks left the part running. -/
theorem State.reported_offerDue {before after : State} (hp : after.phase = .running) :
    (State.reported before after).sup.offerDue = false := by
  unfold State.reported
  cases h : after.sup.offerDue
  · split
    · rfl
    · exact h
  · simp [hp, State.offerStatus]

end Sys2Proof.Machine
end

