-- ==== Sys2Proof/Laws/Queue.lean ====
section
/-! SUPPORT. What the operations on the transmit queue and on a bulletin do, said once each. -/

namespace Sys2Proof.Machine

/-! ## Slots -/

theorem TxQueue.get_set (q : TxQueue) (k k' : StationKind) (x : TxSlot) :
    (q.set k x).get k' = if k' = k then x else q.get k' := by
  cases k <;> cases k' <;> rfl

theorem TxQueue.get_nextPosition (q : TxQueue) (n : Nat) (k : StationKind) :
    ({ q with nextPosition := n } : TxQueue).get k = q.get k := by
  cases k <;> rfl

theorem TxQueue.set_nextPosition (q : TxQueue) (k : StationKind) (x : TxSlot) : (q.set k x).nextPosition = q.nextPosition := by
  cases k <;> rfl

/-! ## The slot in flight -/

theorem TxQueue.flying_of_only {q : TxQueue} {k : StationKind} (flies : (q.get k).isInFlight = true) (only : q.OnlyFlying k) :
    q.flying = some k := by
  unfold TxQueue.OnlyFlying at only
  unfold TxQueue.flying StationKind.list
  cases k <;> simp [List.find?, flies, only]

theorem TxQueue.flying_eq_none {q : TxQueue} (h : ∀ k, (q.get k).isInFlight = false) : q.flying = none := by
  unfold TxQueue.flying StationKind.list
  simp [List.find?, h]

/-- An offer puts nothing in flight. -/
theorem TxQueue.offer_keeps_rest (q : TxQueue) (c : Content) (k : StationKind) (h : (q.get k).isInFlight = false) :
    ((q.offer c).get k).isInFlight = false := by
  unfold TxQueue.offer
  rw [TxQueue.get_nextPosition, TxQueue.get_set]
  split_ifs with same
  · subst same
    cases slot : q.get c.kind with
    | inFlight => simp [slot, TxSlot.isInFlight] at h
    | _ => rfl
  · exact h

/-! ## Which waiting slot is served -/

theorem firstServed_mem : ∀ (l : List (StationKind × Nat)) (b : StationKind × Nat), firstServed l = some b → b ∈ l
  | [], _, h => by simp [firstServed] at h
  | a :: l, b, h => by
    simp only [firstServed] at h
    cases rest : firstServed l with
    | none =>
      rw [rest] at h
      simp at h
      simp [h]
    | some c =>
      rw [rest] at h
      have inRest := firstServed_mem l c rest
      dsimp only at h
      split_ifs at h
      · injection h with h
        exact h ▸ List.mem_cons_of_mem _ inRest
      · injection h with h
        simp [h]

/-- The entry that is served before every other is the one served. -/
theorem firstServed_eq {l : List (StationKind × Nat)} {a : StationKind × Nat} (mem : a ∈ l)
    (least : ∀ b ∈ l, b ≠ a → servedBefore a b = true) : firstServed l = some a := by
  induction l with
  | nil => simp at mem
  | cons c l ih =>
    simp only [firstServed]
    by_cases here : c = a
    · subst here
      cases rest : firstServed l with
      | none => rfl
      | some b =>
        by_cases same : b = c
        · subst same
          simp
        · have before := least b (List.mem_cons_of_mem _ (firstServed_mem _ _ rest)) same
          have after : servedBefore b c = false := by
            unfold servedBefore at *
            simp at *
            omega
          simp [after]
    · rw [ih (by simpa [Ne.symm here] using mem) fun b hb => least b (List.mem_cons_of_mem _ hb)]
      simp [least c (by simp) here]

/-! ## A bulletin that has been sent -/

/-- What the report of a success does: the slot is settled, the error count is 0, and the sender's block is told. -/
theorem State.sendSucceeded_eq {s : State} {k : StationKind} {c : Content} {p : Nat} {f : Option Content}
    (flies : s.line.queue.get k = .inFlight c p f) (speaking : s.line.state = .speaking) :
    s.sendSucceeded k =
      State.reportSent
        { s with
          line :=
            { s.line with
              errors := 0
              sending := none
              queue :=
                { s.line.queue.set k
                    (match f with
                      | none => .empty
                      | some g => .waiting g s.line.queue.nextPosition) with
                  nextPosition := s.line.queue.nextPosition + 1 } } }
        c := by
  simp only [State.sendSucceeded, flies, TxSlot.flyingContent, Line.cleared, speaking]
  simp [State.setSending, TxSlot.settled, TxQueue.set_nextPosition]
  cases f <;> rfl

/-! ## What STATUS carries of the line -/

/-- Of the line, STATUS's states carry only whether the duplicate timer runs. -/
theorem State.statusStates_of_line {s : State} {l : Line} (h : l.duplicateTimer = s.line.duplicateTimer) :
    s.statusStates = State.statusStates { s with line := l } := by
  have same : s.alarms = State.alarms { s with line := l } := by
    unfold State.alarms
    congr 1
    funext a
    cases a <;> simp [State.alarm, h] <;> rfl
  unfold State.statusStates
  rw [same]
  rfl

/-- An effect that changes nothing STATUS carries and owes no offer is all that an event does. -/
theorem State.take_of_unchanged {s t : State} {effect : State → State} (ready : s.Ready) (h : effect s = t)
    (owed : t.sup.offerDue = false) (same : s.statusStates = t.statusStates) : s.take effect = t := by
  rw [State.take_of_running ready.1, h, State.reported_of_unchanged owed same]

end Sys2Proof.Machine
end

