-- ==== Sys2Proof/Laws/Rows.lean ====
section
/-! SUPPORT. What the Row Builder's row former, the ring and the frame on the line give, said once each in the terms of Safety.lean. -/

namespace Sys2Proof.Machine

/-! ## The row formed at a close -/

theorem lowestMinimum_eq_none_iff (cells : List Cell) : lowestMinimum cells = none ↔ ∀ cell ∈ cells, cell.minimum = none := by
  induction cells with
  | nil => simp [lowestMinimum]
  | cons cell cells ih =>
    unfold lowestMinimum
    cases first : cell.minimum <;> cases rest : lowestMinimum cells <;> simp_all

/-- The minimum of a row is the least of its cells' minimums (R144). -/
theorem lowestMinimum_eq_some_iff (cells : List Cell) (m : Int) :
    lowestMinimum cells = some m ↔
      (∃ cell ∈ cells, cell.minimum = some m) ∧ ∀ cell ∈ cells, ∀ v, cell.minimum = some v → m ≤ v := by
  induction cells generalizing m with
  | nil => simp [lowestMinimum]
  | cons cell cells ih =>
    unfold lowestMinimum
    cases first : cell.minimum with
    | none => simp [first, ih]
    | some a =>
      cases rest : lowestMinimum cells with
      | none =>
        have none_below := (lowestMinimum_eq_none_iff cells).1 rest
        simp only [List.exists_mem_cons_iff, List.forall_mem_cons, first, Option.some.injEq]
        constructor
        · rintro rfl
          refine ⟨.inl rfl, fun v hv => hv ▸ le_rfl, fun c mem v hv => ?_⟩
          rw [none_below c mem] at hv
          cases hv
        · rintro ⟨h | ⟨c, mem, hc⟩, -⟩
          · exact h
          · rw [none_below c mem] at hc
            cases hc
      | some b =>
        obtain ⟨⟨least, mem, attained⟩, below⟩ := (ih b).1 rest
        simp only [List.exists_mem_cons_iff, List.forall_mem_cons, first, Option.some.injEq]
        constructor
        · rintro rfl
          refine ⟨?_, fun v hv => by omega, fun c hc v hv => by have := below c hc v hv; omega⟩
          by_cases le : a ≤ b
          · exact .inl (by omega)
          · exact .inr ⟨least, mem, by rw [attained, Option.some.injEq]; omega⟩
        · rintro ⟨h, least_a, least_rest⟩
          have upper := least_rest least mem b attained
          rcases h with rfl | ⟨c, hc, value⟩
          · omega
          · have := below c hc m value
            have := least_a a rfl
            omega

theorem windowOverlaps_iff (w : MarkWindow) (start length : Nat) :
    windowOverlaps w start length = true ↔ MarkWindow.Overlaps w start length := by
  unfold windowOverlaps MarkWindow.Overlaps
  simp [and_assoc]

/-- The edge of a row is judged cold exactly when its two outermost cells both read below the threshold (R147). -/
theorem Row.edgeIsCold_iff (row : Row) (threshold : Nat) : row.edgeIsCold threshold = true ↔ row.ColdEdge threshold := by
  unfold Row.edgeIsCold Row.ColdEdge
  constructor
  · intro cold
    split at cold
    · rename_i a b cells reversed
      have split : row.cells = (a :: b :: cells).reverse := by rw [← reversed, List.reverse_reverse]
      obtain ⟨outer, inner⟩ := Bool.and_eq_true_iff.1 cold
      match a, b, outer, inner with
      | some x, some y, outer, inner =>
        refine ⟨cells.length, x, y, ?_, ?_, ?_, by simpa [isCold] using outer, by simpa [isCold] using inner⟩ <;> simp [split]
    · cases cold
  · rintro ⟨k, a, b, length, outer, inner, coldOuter, coldInner⟩
    have first : row.cells.reverse[0]? = some (some a) := by
      rw [List.getElem?_reverse (by omega), length]
      exact outer
    have second : row.cells.reverse[1]? = some (some b) := by
      rw [List.getElem?_reverse (by omega), length]
      exact inner
    match reversed : row.cells.reverse, first, second with
    | x :: y :: cells, first, second =>
      simp only [List.getElem?_cons_zero, List.getElem?_cons_succ, Option.some.injEq] at first second
      subst first second
      simp [isCold, coldOuter, coldInner]

/-! ## The ring -/

/-- A row handed over changes the ring by its count and its mode (R153). -/
theorem Ring.commit_eq_handed (r : Ring) (row : Row) : r.commit row = r.handed row := rfl

/-- Under the ring's account a held row is found by its sequence (R151). -/
theorem Ring.held_of_sound {r : Ring} (sound : r.Sound) {i : Nat} {h : HeldRow} (here : r.rows[i]? = some h) :
    r.held h.seq = some h := by
  have bound : i < r.rows.length := by
    by_contra beyond
    rw [List.getElem?_eq_none (by omega)] at here
    cases here
  unfold Ring.held
  rw [List.find?_eq_some_iff_getElem]
  refine ⟨by simp, i, bound, ?_, fun j less => ?_⟩
  · rwa [List.getElem?_eq_getElem bound, Option.some.injEq] at here
  · have lower : j < r.rows.length := by omega
    have count := sound.1
    unfold Ring.count Config.ringRows at count
    simp only [Bool.not_eq_true', beq_eq_false_iff_ne, ne_eq]
    rw [sound.2.1 i h here, sound.2.1 j _ (List.getElem?_eq_getElem lower)]
    intro same
    have numbers : BitVec.ofNat 32 j = BitVec.ofNat 32 i := by
      simpa [BitVec.add_comm r.oldest] using congrArg (· - r.oldest) same
    have := congrArg BitVec.toNat numbers
    simp at this
    omega

/-! ## The frame on the line -/

@[simp] theorem byteLevels_length (b : Byte) : (byteLevels b).length = 8 := by simp [byteLevels]

theorem byteLevels_getElem? (b : Byte) {j : Nat} (h : j < 8) :
    (byteLevels b)[j]? = some (if b.getLsbD (7 - j) then .recessive else .dominant) := by
  simp [byteLevels, h]

/-- The levels of bytes are the bytes' levels in order (R4). -/
theorem flatMap_byteLevels_getElem? {j : Nat} {b : Byte} (hj : j < 8) :
    ∀ (bytes : List Byte) (i : Nat), bytes[i]? = some b → (bytes.flatMap byteLevels)[8 * i + j]? = (byteLevels b)[j]?
  | [], _, h => by simp at h
  | a :: bytes, 0, h => by
    simp only [List.getElem?_cons_zero, Option.some.injEq] at h
    subst h
    rw [List.flatMap_cons, List.getElem?_append_left (by simpa using hj)]
    simp
  | a :: bytes, i + 1, h => by
    rw [List.getElem?_cons_succ] at h
    rw [List.flatMap_cons, List.getElem?_append_right (by rw [byteLevels_length]; omega), byteLevels_length,
      show 8 * (i + 1) + j - 8 = 8 * i + j by omega]
    exact flatMap_byteLevels_getElem? hj bytes i h

/-- A frame takes 10 bit times more than its bytes (R4). -/
theorem frame_length (station : Fin 8) (c : Content) : (frame station c).length = 8 * (bulletin station c).length + 10 := by
  have levels : ∀ bytes : List Byte, (bytes.flatMap byteLevels).length = 8 * bytes.length := by
    intro bytes
    induction bytes with
    | nil => rfl
    | cons a bytes ih =>
      rw [List.flatMap_cons, List.length_append, ih, byteLevels_length, List.length_cons]
      omega
  simp only [frame, List.length_append, levels, List.length_cons, List.length_nil, List.length_replicate]
  omega

end Sys2Proof.Machine
end

