-- ==== Sys2Proof/Laws/Travel.lean ====
section
/-! SUPPORT. What the Travel Unit makes of a change of chainage, of a source and of a source's content, said once each in the terms of
Safety.lean. -/

namespace Sys2Proof.Machine

theorem octet_get_set {α : Type} (q : Octet α) (a b : Fin 8) (x : α) : (q.set a x).get b = if b = a then x else q.get b := by
  fin_cases a <;> fin_cases b <;> rfl

theorem mem_stations (n : Fin 8) : n ∈ stations := by
  revert n
  decide

/-! ## A change of chainage -/

/-- A stop timer started now, under a page (R29). -/
theorem Travel.stopStarted_eq {t : Travel} {page : TravelPage} (calibrated : t.page = some page) (now : Nat) :
    t.stopStarted now = some (now + 10000 * page.stopTime) := by
  simp only [Travel.stopStarted, calibrated, Option.map_some, Config.ms, Option.some.injEq]
  omega

/-- A calibrated record whose chainage changes follows the table of R28 and R29. -/
theorem Travel.moveTo_eq_ruled {t : Travel} {page : TravelPage} {c : Nat} (calibrated : t.page = some page) (moves : c ≠ t.chainage)
    (now : Nat) :
    t.moveTo c now =
      { t with
        chainage := c
        state := (t.ruled c (now + 10000 * page.stopTime) (decide (t.chainage < c))).1
        mark := (t.ruled c (now + 10000 * page.stopTime) (decide (t.chainage < c))).2.1
        stopTimer := (t.ruled c (now + 10000 * page.stopTime) (decide (t.chainage < c))).2.2 } := by
  have started := Travel.stopStarted_eq (t := { t with chainage := c }) calibrated now
  unfold Travel.moveTo
  rw [if_neg moves]
  dsimp only
  rw [if_pos (by simp [calibrated])]
  unfold Travel.testState Travel.ruled Travel.enterPaving Travel.enter Config.travelMargin
  dsimp only
  simp only [started]
  cases hs : t.state <;> dsimp only
  · by_cases back : c + 5 ≤ t.mark
    · rw [if_pos (by omega), if_pos back]
    · rw [if_neg (by omega), if_neg back]
      by_cases rises : t.chainage < c <;> simp [rises, ← hs]
  · by_cases ahead : t.mark + 5 ≤ c
    · rw [if_pos ahead, if_pos ahead]
    · rw [if_neg ahead, if_neg ahead]
      by_cases back : c + 5 ≤ t.mark
      · rw [if_pos back, if_pos back]
      · rw [if_neg back, if_neg back]
  · by_cases ahead : t.mark + 5 ≤ c
    · rw [if_pos (by omega), if_pos ahead]
    · rw [if_neg (by omega), if_neg ahead]

/-- The state that a change of chainage gives does not rest on when a stop timer would end. -/
theorem Travel.ruled_state (u : Travel) (c stop stop' : Nat) (rises rises' : Bool) :
    (u.ruled c stop rises).1 = (u.ruled c stop' rises').1 := by
  unfold Travel.ruled
  cases u.state <;> dsimp only <;> (try split_ifs) <;> rfl

/-! ## The source -/

theorem head_filterMap_eq {α : Type} (f : Fin 8 → Option α) {n : Fin 8} {c : α} (found : f n = some c)
    (lower : ∀ k < n, f k = none) :
    ∀ l : List (Fin 8), l.Pairwise (· < ·) → n ∈ l → (l.filterMap fun n => (f n).map fun c => (n, c)).head? = some (n, c)
  | [], _, mem => by simp at mem
  | a :: l, rising, mem => by
    rw [List.pairwise_cons] at rising
    rcases List.mem_cons.1 mem with rfl | mem
    · simp [found]
    · simp only [List.filterMap_cons, lower a (rising.1 n mem), Option.map_none]
      exact head_filterMap_eq f found lower l rising.2 mem

/-- The lowest station that is a candidate is the source choice (R30). -/
theorem State.sourceChoice_eq {s : State} {n : Fin 8} {c : TravelContent} (found : s.candidate n = some c)
    (lower : ∀ k < n, s.candidate k = none) : s.sourceChoice = some (n, c) :=
  head_filterMap_eq s.candidate found lower stations (by decide) (mem_stations n)

/-- Content taken by a follower gives its chainage and, once calibrated, its speed; epoch, remainder and source record stay (R31). -/
theorem Travel.follow_keeps (t : Travel) (c : TravelContent) (now : Nat) :
    (t.follow c now).chainage = c.chainage ∧ (t.follow c now).epoch = t.epoch ∧ (t.follow c now).remainder = t.remainder ∧
      (t.follow c now).speed = (if t.page.isSome then c.speed else 0) ∧ (t.follow c now).source = t.source ∧
      (t.follow c now).previous = t.previous ∧ (t.follow c now).sourceChanges = t.sourceChanges := by
  unfold Travel.follow
  generalize (if t.page.isSome = true then c.speed else 0) = speed
  dsimp only
  by_cases lost : t.state == .lost
  · rw [if_pos lost]
    unfold Travel.leaveLost Travel.enterPaving Travel.enter
    dsimp only
    split_ifs <;> exact ⟨rfl, rfl, rfl, rfl, rfl, rfl, rfl⟩
  · rw [if_neg lost]
    unfold Travel.moveTo
    split_ifs with same
    · exact ⟨same.symm, rfl, rfl, rfl, rfl, rfl, rfl⟩
    · unfold Travel.testState Travel.enterPaving Travel.enter
      dsimp only
      split <;> (try split_ifs) <;> exact ⟨rfl, rfl, rfl, rfl, rfl, rfl, rfl⟩
    · exact ⟨rfl, rfl, rfl, rfl, rfl, rfl, rfl⟩

end Sys2Proof.Machine
end

