-- ==== Sys2Proof/Laws/Zones.lean ====
section
/-! SUPPORT. What the operations on zones and on the generator share do, said once each. -/

namespace Sys2Proof.Machine

theorem quad_get_set {α : Type} (q : Quad α) (z z' : Fin 4) (a : α) :
    (q.set z a).get z' = if z' = z then a else q.get z' := by
  fin_cases z <;> fin_cases z' <;> rfl

theorem quad_get_ofFn {α : Type} (f : Fin 4 → α) (z : Fin 4) : (Quad.ofFn f).get z = f z := by
  fin_cases z <;> rfl

/-- A zone's on-slots are the first `duty` of the window, counted from its offset and wrapping (R51). -/
theorem isOnSlot_iff {slot offset : Nat} (duty : Nat) (hs : slot < 50) (ho : offset < 50) :
    isOnSlot slot offset duty = true ↔ ∃ i, i < duty ∧ i < 50 ∧ slot = (offset + i) % 50 := by
  have unfolded : isOnSlot slot offset duty = decide ((slot + 50 - offset) % 50 < duty) := rfl
  rw [unfolded, decide_eq_true_iff]
  constructor
  · intro h
    exact ⟨(slot + 50 - offset) % 50, h, by omega, by omega⟩
  · rintro ⟨i, less, inside, at'⟩
    have : (slot + 50 - offset) % 50 = i := by omega
    omega

/-! ## Judging one zone -/

/-- Judging a zone trips it, when it is fitted and not tripped, by the first condition that stands, and leaves every other zone. -/
theorem State.judgeZone_get (s : State) (z z' : Fin 4) :
    (s.judgeZone z).heat.zones.get z' =
      if z' = z then
        if s.straps.zoneFitted z && !(s.heat.zones.get z).state.isTripped then
          match (s.heat.zones.get z).standingCause s.pins.leakage with
          | some cause => (s.heat.zones.get z).trip cause
          | none => s.heat.zones.get z
        else s.heat.zones.get z
      else s.heat.zones.get z' := by
  unfold State.judgeZone State.zone
  split_ifs with judged same same
  · subst same
    cases (s.heat.zones.get z').standingCause s.pins.leakage with
    | some cause =>
      show (s.heat.zones.set _ _).get _ = _
      rw [quad_get_set, if_pos rfl]
      rfl
    | none => rfl
  · cases (s.heat.zones.get z).standingCause s.pins.leakage with
    | some cause =>
      show (s.heat.zones.set _ _).get _ = _
      rw [quad_get_set, if_neg same]
    | none => rfl
  · rw [same]
  · rfl

/-- The condition that stands: leakage, then the sensor's fault, then 220 °C (R55). -/
theorem Zone.standingCause_eq (leak : Bool) (r : Zone) :
    r.standingCause leak =
      (if leak then some .leakage
        else if r.sensorFault then some .sensor
        else if 220 ≤ r.temperature.getD 0 then some .overtemp
        else none) := by
  unfold Zone.standingCause
  cases leak <;> cases fault : r.sensorFault <;> simp
  cases temperature : r.temperature with
  | none => simp
  | some v => by_cases hot : 220 ≤ v <;> simp [Config.overtempTrip, hot]

/-- When a trip may be cleared (R57). -/
theorem Zone.mayClear_iff (r : Zone) (cause : TripCause) (leak : Bool) :
    r.mayClear cause leak = true ↔
      cause = .openElement ∨ cause = .overcurrent ∨ (cause = .sensor ∧ r.sensorFault = false) ∨
        (cause = .overtemp ∧ r.sensorFault = false ∧ ∃ v, r.temperature = some v ∧ v < 200) ∨
        (cause = .leakage ∧ leak = false) := by
  cases cause <;> simp [Zone.mayClear]
  intro _
  cases r.temperature
  · simp
  · simp only [Config.overtempClear]
    exact decide_eq_true_iff.trans (by simp)

/-! ## Crossings and the sag -/

/-- The run of good spacings after a crossing (R43). -/
theorem Heat.nextRun_eq (h : Heat) (now : Nat) :
    h.nextRun now =
      if (∃ last, h.lastCrossing = some last ∧ 140 ≤ now - last ∧ now - last ≤ 250) ∧ h.runCount ≠ 0 then h.runCount + 1
      else 1 := by
  unfold Heat.nextRun
  cases h.lastCrossing with
  | none => simp
  | some l =>
    have same :
        (h.runCount ≠ 0 ∧ Config.minSpacing ≤ now - l ∧ now - l ≤ Config.maxSpacing) ↔
          ((∃ last, some l = some last ∧ 140 ≤ now - last ∧ now - last ≤ 250) ∧ h.runCount ≠ 0) := by
      constructor
      · rintro ⟨a, b, c⟩
        exact ⟨⟨l, rfl, b, c⟩, a⟩
      · rintro ⟨⟨l', hl, x, y⟩, z⟩
        injection hl with hl
        subst hl
        exact ⟨z, x, y⟩
    by_cases hc : h.runCount ≠ 0 ∧ Config.minSpacing ≤ now - l ∧ now - l ≤ Config.maxSpacing
    · dsimp only
      rw [if_pos hc, if_pos (same.1 hc)]
    · dsimp only
      rw [if_neg hc, if_neg fun x => hc (same.2 x)]

/-- The crossing that ends a window is judged, and begins the next one. -/
theorem State.takeCrossing_at_boundary {s : State} {rms : Nat} {peak : Quad Nat} (runs : s.heat.supply = .running)
    (last : 50 ≤ s.heat.slot + 1) :
    s.takeCrossing rms peak = ((s.senseSlot peak).judgeWindow rms).beginWindow.timeCrossing := by
  have window : s.windowRuns = true := by
    unfold State.windowRuns
    rw [runs]
    rfl
  unfold State.takeCrossing
  rw [if_pos window]
  unfold State.crossRunning
  dsimp only
  rw [if_neg (show ¬s.heat.slot + 1 < Config.windowSlots by unfold Config.windowSlots; omega)]

/-! ## Shares and duties -/

/-- What an allocation hands out is at most the share (R50). -/
theorem allocate_sum_le : ∀ (l : List (Nat × Nat)) (share : Nat), ((allocate share l).map (·.2)).sum ≤ share
  | [], share => by simp [allocate]
  | (z, d) :: l, share => by
    simp only [allocate, List.map_cons, List.sum_cons]
    have := allocate_sum_le l (share - min d share)
    omega

/-- A duty's power is at most the zone's allocation (R51). -/
theorem dutyOf_mul_le (allocation rating : Nat) : dutyOf allocation rating * rating ≤ 50 * allocation := by
  unfold dutyOf Config.windowSlots
  exact Nat.div_mul_le_self _ _

/-- A share is at most the own demand, at most the capacity, and at most the proportional part of it when the total exceeds it
(R64, R66). -/
theorem shareOf_le (capacity own total factor : Nat) (hf : factor ≤ 256) (ht : own ≤ total) :
    shareOf capacity own total factor ≤ own ∧ shareOf capacity own total factor ≤ capacity ∧
      (capacity < total → shareOf capacity own total factor ≤ capacity * own / total) := by
  have shed : shareOf capacity own total factor ≤ rawShare capacity own total := by
    unfold shareOf
    apply Nat.div_le_of_le_mul
    rw [Nat.mul_comm 256]
    exact Nat.mul_le_mul_left _ hf
  have ownBound : rawShare capacity own total ≤ own := by
    unfold rawShare
    split_ifs with h
    · exact le_rfl
    · apply Nat.div_le_of_le_mul
      exact Nat.mul_le_mul_right _ (by omega)
  have capacityBound : rawShare capacity own total ≤ capacity := by
    unfold rawShare
    split_ifs with h
    · omega
    · apply Nat.div_le_of_le_mul
      rw [Nat.mul_comm]
      exact Nat.mul_le_mul_right _ ht
  refine ⟨by omega, by omega, fun h => ?_⟩
  unfold rawShare at shed
  rwa [if_neg (by omega)] at shed

end Sys2Proof.Machine
end

