-- ==== Sys2Proof/WellFormed.lean ====
section
/-! DEFINITION. When a command is one the outside can give: a command of a console carries a console's or collector's number,
a reading is a number its sensor line can carry, a sweep has sixteen spots, a field fits the bytes that carry it. -/

namespace Sys2Proof

/-- Consoles and the collector have the addresses 8 to 15 (R4). -/
def isConsole (sender : Fin 16) : Bool := decide (8 ≤ sender.val)

/-- A byte-wide and a two-byte-wide field of a payload (Section 12.4). -/
def fitsByte (n : Nat) : Bool := decide (n < 256)
def fitsTwoBytes (n : Nat) : Bool := decide (n < 65536)
def fitsFourBytes (n : Nat) : Bool := decide (n < 4294967296)

def FeedGains.wellFormed (g : FeedGains) : Bool := fitsByte g.kff && fitsByte g.kl && fitsByte g.setpoint

def MarkWindow.wellFormed (w : MarkWindow) : Bool := decide (w.tag < 16) && fitsFourBytes w.start && fitsFourBytes w.length

/-- Each field of a SETTINGS fits the bytes the layout of Section 12.4 gives it. -/
def SettingsFields.wellFormed : SettingsFields → Bool
  | .heat f =>
    fitsTwoBytes f.capacity && fitsByte f.setpoint && fitsByte f.band && fitsByte f.parkSetpoint &&
      fitsTwoBytes f.nominalVoltage && fitsByte f.sagPercent && fitsByte f.zoneOrder
  | .level f =>
    fitsByte f.gradeDeadband && fitsByte f.slopeDeadband && fitsByte f.gradeGain && fitsByte f.slopeGain &&
      fitsByte f.minPulse && fitsTwoBytes f.deadTime && fitsByte f.settleDistance && fitsByte f.resumePolicy &&
      fitsByte f.restartChoice
  | .feed f => f.conveyor.wellFormed && f.auger.wellFormed && fitsByte f.boost && fitsTwoBytes f.stallTime
  | .record f =>
    fitsByte f.rowStep && fitsByte f.ringMode && fitsByte f.coldThreshold &&
      f.windows.z0.wellFormed && f.windows.z1.wellFormed && f.windows.z2.wellFormed && f.windows.z3.wellFormed
  | .travel f => fitsTwoBytes f.pulsesPerMetre && fitsByte f.stopTime

/-- A command the outside can give. -/
def Instr.wellFormed : Instr → Bool
  | .bulletinBegin => true
  | .contentionLost cls _ => decide (cls.val ≤ 5)
  | .sendComplete _ => true
  | .quietTimerExpiry => true
  | .bulletinReceived _ => true
  | .duplicateTimerExpiry => true
  | .peerSlotStale _ _ => true
  | .travelCadence => true
  | .heightCadence => true
  | .levelCadence => true
  | .statusCadence => true
  | .encoderChange _ => true
  | .speedTimerExpiry => true
  | .stopTimerExpiry => true
  | .rebase _ => true
  | .zeroCrossing _ _ => true
  | .supplyTimerExpiry => true
  | .idleDemandTimerExpiry => true
  | .heatSensorTimerExpiry _ => true
  | .zoneOvercurrent _ _ => true
  | .leakageInputActive _ => true
  | .modeHeating sender _ => isConsole sender
  | .clearHeating sender => isConsole sender
  | .shedAll => true
  | .restore => true
  | .gradeSlopeReading _ _ => true
  | .gradeSlopeSilenceExpiry _ => true
  | .periodStart => true
  | .pulseEnd => true
  | .deadTimeExpiry => true
  | .modeLevelling sender _ => isConsole sender
  | .jog sender _ length => isConsole sender && fitsTwoBytes length
  | .modeConveyorAuger sender _ _ command => isConsole sender && fitsTwoBytes command
  | .feedLevelReading _ _ => true
  | .feedSensorSilenceExpiry _ => true
  | .controlPeriod => true
  | .holdTimerExpiry _ => true
  | .driveSpeedPulse _ => true
  | .speedCaptureTimeout _ => true
  | .stallTimerExpiry _ => true
  | .widthReading _ => true
  | .sweep _ spots => decide (spots.length = 16)
  | .scannerSilenceExpiry => true
  | .collect sender _ count => isConsole sender && fitsByte count
  | .release _ => true
  | .settings fields => fields.wellFormed
  | .pageAgeExpiry _ => true
  | .park sender _ => isConsole sender
  | .wake => true
  | .wakingTimerExpiry => true
  | .restart => true
  | .restartTimerExpiry => true
  | .restartPinActive => true
  | .restartPinInactive => true
  | .powerOnResetAssert => true
  | .powerOnResetRelease _ => true

end Sys2Proof
end

