-- ==== Sys2Proof/Tests/Slice0.lean ====
section
/-! SUPPORT. The author's own tests: ill-formed commands, bulletins written out byte by byte from Section 12, one event on a small state
for the commands, each expected value from a worked example or a rule of the manual. -/

namespace Sys2Proof.Tests

open Sys2Proof.Machine

/- One thread at a time: every kernel evaluation below would otherwise hold a thread, and its stack, of its own. -/
set_option Elab.async false

/-! ## States to test on -/

/-- The state after a command. -/
def after (c : Instr) (s : State) : State :=
  match exec c s with
  | .next t => t
  | _ => s

/-- Station 0, LEFT, MAIN, with four zones of 1.0 kW, encoder, tow cylinder, feed owner, scanner and level sensor. -/
def rig : State := .poweredOn 254208 ⟨0, false⟩ 0

/-- The same at 10 s. -/
def later : State := { rig with now := 100000 }

/-- Station 0, MAIN, 125 cm, with no equipment: a follower. -/
def bare : State := .reset

/-- The rig PAVING at 5.0 m/min, one quadrature step before a forward pulse, at P = 3333. -/
def paving : State :=
  { rig with
    travel :=
      { rig.travel with
        page := some ⟨3333, 3⟩, state := .paving, stopTimer := some 30000, chainage := 1200, mark := 1200, remainder := 3250
        steps := 3, speed := 50 } }

/-- The heating page of the worked example of Section 3.3. -/
def heatPage : HeatPage := ⟨2400, 140, 20, 80, 400, 90, .fixed⟩

/-- The rig in a heating window, with its first zone regulating on a full duty. -/
def heating : State :=
  { rig with
    heat :=
      { rig.heat with
        supply := .running, page := some heatPage, lastCrossing := some 0
        zones := rig.heat.zones.set 0 ⟨.regulating, some 128, false, 90, 50, false, 0, true, false⟩ } }

/-- The levelling page of the worked example of Section 5.6, with a dead time of 30 ms. -/
def levelPage : LevelPage := ⟨10, 10, 12, 12, 15, 30, 60, .saved, .redo⟩

/-- The rig PAVING with its side in AUTO-GRADE and ACTIVE at a reference of 0 and a reading of −80, at the start of a period. -/
def steering : State :=
  { paving with
    level :=
      { paving.level with
        mode := .autoGrade, condition := .active, captured := true, grade := ⟨some (-80), false, some 2000⟩
        page := some levelPage, periodTimer := some 0, driver := .neutral } }

/-- The rig with its side in MANUAL and its driver NEUTRAL, at a dead time of 40 ms. -/
def jogging : State :=
  { rig with
    level := { rig.level with mode := .manual, page := some { levelPage with deadTime := 40 }, driver := .neutral } }

/-- The rig one pulse before the end of its settle. -/
def settling : State :=
  { steering with
    level :=
      { steering.level with
        condition := .settling, settleMark := some 1141
        resume := some ⟨1140, 0, some 7, some (5, false), some (.raise, 30), 0⟩ } }

/-- The feed page of the worked examples of Chapter 7. -/
def feedPage : FeedPage := ⟨⟨60, 10, 60⟩, ⟨40, 20, 55⟩, 15, 5000⟩

/-- The rig PAVING with its conveyor in AUTO and DRIVING at a tunnel level of 45 %, at a control period. -/
def conveying : State :=
  { paving with
    feed :=
      { paving.feed with
        conveyor := { paving.feed.conveyor with mode := .auto, condition := .driving }
        page := some feedPage, tunnel := ⟨some 45, false, some 3000⟩, periodTimer := some 0 } }

/-- A record page with a row step of 25 cm and no mark window. -/
def recordPage : RecordPage := ⟨25, .wrap, 120, .all ⟨false, 1, 0, 1⟩⟩

/-- A row's accumulator from `start` to `finish`, with nothing in it. -/
def emptyRow (start finish : Nat) : OpenRow :=
  ⟨start, finish, 0, .replicate 16 ⟨0, 0, none⟩, 0, 0, 0, 0, 0, ⟨false, false, false, false, false⟩, 0, none⟩

/-- The rig PAVING with a row open from 1176 to 1201. -/
def recording : State :=
  { paving with
    rows := { paving.rows with page := some recordPage, openRow := some (emptyRow 1176 1201), lastChainage := 1200 } }

/-- A closed row with nothing in it. -/
def aRow : Row :=
  ⟨0, 0, 25, .step, 125, [], none, 0, 0, 50, none, none, ⟨false, false, false, false, false⟩, 0⟩

/-- The rig with two rows in its ring, at the sequences 0 and 1. -/
def stored : State := { rig with ring := { rig.ring with rows := [⟨0, aRow⟩, ⟨1, aRow⟩], next := 2, closed := 2 } }

/-- The rig with a bulletin of a kind in flight. -/
def sending (k : StationKind) (c : Content) (f : Option Content) : State :=
  { rig with line := { rig.line with queue := rig.line.queue.set k (.inFlight c 0 f), sending := some [] } }

/-- A travel content at a chainage, of an encoder station. -/
def travelAt (chainage : Nat) : TravelContent := ⟨chainage, 0, 50, .paving, true⟩

/-- A follower that hears the travel of stations 2 and 3. -/
def following : State :=
  { bare with
    now := 100000
    line :=
      { bare.line with
        peers :=
          (bare.line.peers.set 2 { bare.line.peers.get 2 with travel := .fresh (travelAt 500) 96999 }).set 3
            { bare.line.peers.get 3 with travel := .fresh (travelAt 700) 99000 } }
    travel := { bare.travel with page := some ⟨1000, 3⟩, source := .station 2, state := .stopped } }

/-- The rig in PARK. -/
def parked : State :=
  { rig with
    sup := { rig.sup with station := .park, option := some .warm }
    rows := { rig.rows with scannerOn := false, silence := .stopped } }

/-- A bulletin of a class, sender, kind, target and payload, with its checksum. -/
def framed (cls sender kind target : Nat) (payload : List Byte) : List Byte :=
  let covered := [byte (cls * 32 + sender * 2), byte kind, byte target, byte payload.length] ++ payload
  covered ++ bytes2 (checksum covered).toNat

/-! ## Ill-formed commands -/

theorem test_wf_class_above_five : Instr.wellFormed (.contentionLost 6 0) = false := by decide
theorem test_wf_class_five : Instr.wellFormed (.contentionLost 5 0) = true := by decide
theorem test_wf_mode_of_a_station : Instr.wellFormed (.modeHeating 7 true) = false := by decide
theorem test_wf_clear_of_a_station : Instr.wellFormed (.clearHeating 7) = false := by decide
theorem test_wf_levelling_of_a_station : Instr.wellFormed (.modeLevelling 0 .off) = false := by decide
theorem test_wf_jog_of_a_station : Instr.wellFormed (.jog 7 .raise 20) = false := by decide
theorem test_wf_jog_too_long : Instr.wellFormed (.jog 8 .raise 65536) = false := by decide
theorem test_wf_drive_of_a_station : Instr.wellFormed (.modeConveyorAuger 7 .auger .off 0) = false := by decide
theorem test_wf_drive_command_too_wide : Instr.wellFormed (.modeConveyorAuger 8 .auger .manual 65536) = false := by decide
theorem test_wf_sweep_of_fifteen : Instr.wellFormed (.sweep true (.replicate 15 100)) = false := by decide
theorem test_wf_sweep_of_sixteen : Instr.wellFormed (.sweep true (.replicate 16 100)) = true := by decide
theorem test_wf_collect_of_a_station : Instr.wellFormed (.collect 7 0 1) = false := by decide
theorem test_wf_collect_count_too_wide : Instr.wellFormed (.collect 8 0 256) = false := by decide
theorem test_wf_park_of_a_station : Instr.wellFormed (.park 7 .cold) = false := by decide
theorem test_wf_heat_field_too_wide :
    Instr.wellFormed (.settings (.heat ⟨65536, 130, 10, 80, 400, 90, 0⟩)) = false := by decide
theorem test_wf_level_field_too_wide :
    Instr.wellFormed (.settings (.level ⟨10, 10, 256, 12, 15, 30, 60, 0, 0⟩)) = false := by decide
theorem test_wf_feed_field_too_wide :
    Instr.wellFormed (.settings (.feed ⟨⟨60, 10, 60⟩, ⟨40, 20, 256⟩, 15, 5000⟩)) = false := by decide
theorem test_wf_record_tag_too_wide :
    Instr.wellFormed (.settings (.record ⟨25, 0, 120, .all ⟨false, 16, 0, 1⟩⟩)) = false := by decide
theorem test_wf_travel_field_too_wide : Instr.wellFormed (.settings (.travel ⟨65536, 3⟩)) = false := by decide

/-! ## Bulletins byte by byte (Sections 12.1 to 12.4; the checksums from the generator of Section 12.1 by hand) -/

/-- The check value of this cyclic redundancy check over the ASCII digits 1 to 9. -/
theorem test_checksum_of_digits :
    checksum [0x31, 0x32, 0x33, 0x34, 0x35, 0x36, 0x37, 0x38, 0x39] = 0x29B1 := by decide +kernel

theorem test_read_jog :
    readBulletin [0x52, 0x07, 0x00, 0x03, 0x01, 0x01, 0x2c, 0xc9, 0xc8] = some ⟨9, 7, 0, [0x01, 0x01, 0x2c]⟩ := by
  decide +kernel

/-- One bit of the checksum wrong is a receive error. -/
theorem test_read_bad_checksum : readBulletin [0x52, 0x07, 0x00, 0x03, 0x01, 0x01, 0x2c, 0xc9, 0xc9] = none := by
  decide +kernel

theorem test_decode_jog : decodeCommand 7 [0x01, 0x01, 0x2c] = some (.jog .lower 300) := by decide
theorem test_decode_mode_levelling : decodeCommand 6 [0x01, 0x02, 0x00, 0x00] = some (.modeLevelling .autoGrade) := by decide
theorem test_decode_mode_auger : decodeCommand 6 [0x03, 0x01, 0x01, 0xf4] = some (.modeDrive .auger .manual 500) := by decide
theorem test_decode_mode_heating : decodeCommand 6 [0x00, 0x01, 0x00, 0x00] = some (.modeHeating true) := by decide
theorem test_decode_park : decodeCommand 8 [0x01] = some (.park .cold) := by decide
theorem test_decode_park_named_by_no_value : decodeCommand 8 [0x02] = none := by decide
theorem test_decode_clear : decodeCommand 10 [0x00] = some .clearHeating := by decide
theorem test_decode_rebase : decodeCommand 11 [0x00, 0x00, 0x03, 0xe8] = some (.rebase 1000) := by decide
theorem test_decode_collect : decodeCommand 17 [0x00, 0x00, 0x00, 0x05, 0x03] = some (.collect 5 3) := by decide
theorem test_decode_release : decodeCommand 18 [0x00, 0x01, 0x00, 0x00] = some (.release 65536) := by decide
theorem test_decode_settings_travel :
    decodeCommand 15 ([0x04, 0x0d, 0x05, 0x03] ++ .replicate 36 0) = some (.settings (.travel ⟨3333, 3⟩)) := by decide
theorem test_decode_settings_level :
    decodeCommand 15 ([0x01, 10, 9, 12, 11, 15, 0x01, 0x2c, 60, 1, 0] ++ .replicate 29 0) =
      some (.settings (.level ⟨10, 9, 12, 11, 15, 300, 60, 1, 0⟩)) := by decide
theorem test_decode_peer_travel :
    decodePeer 4 [0x00, 0x00, 0x1c, 0xa7, 0x04, 0xff, 0xf8, 0x81] = some (.travel ⟨7335, 4, -8, .reversing, true⟩) := by decide
theorem test_decode_peer_demand :
    decodePeer 13 [0x02, 0xbc, 0x20, 0x01, 0x00, 0x0b, 0xb8] = some (.demand ⟨700, .parkWarm, 256, 3000⟩) := by decide
theorem test_sent_demand :
    (Content.demand ⟨700, .parkWarm, 256, 3000⟩).payload = [0x02, 0xbc, 0x20, 0x01, 0x00, 0x0b, 0xb8] := by decide
theorem test_sent_shed_ack : (Content.shedAck ⟨.shedding, true⟩).payload = [0xc1] := by decide
theorem test_sent_header_of_station_three :
    (headerAndPayload 3 (.shedAck ⟨.shed, false⟩)).take 4 = [0x06, 0x03, 0x0f, 0x01] := by decide

/-- Byte 0 RUN and POWER-ON with heating ON; byte 1 no equipment; byte 2 NO-SETTINGS; bytes 17 STOPPED and source none. -/
theorem test_sent_first_status :
    let p := (Content.status firstStatus 0).payload
    p.take 3 = [0x02, 0x00, 0x60] ∧ fieldAt p 17 1 = 0x4f ∧ fieldAt p 34 1 = 1 ∧ fieldAt p 38 1 = 1 ∧
      fieldAt p 39 1 = 0x70 := by decide

/-! ## Reset -/

/-- The state after reset is that of a power-on reset released with every strap and pin low. -/
theorem test_reset_is_release : State.reset = (State.poweredOn 0 ⟨0, false⟩ 0).firstReport := by rfl

theorem test_no_word_is_a_command : decodeTableWord 16 0 = none ∧ bare.withFetchWord 16 0 = bare := by decide

theorem test_empty_queue_ticks : step { bare with now := 5 } = .next { bare with now := 6 } := rfl

/-- Dead time with both coils blocked for 500 ms at a levelling station (R82, R179). -/
theorem test_power_on_blocks_both_coils : rig.level.driver = .dead .both (some 5000) none := by decide

/-! ## The line -/

theorem test_begin_sends_first_status :
    (after .bulletinBegin bare).line.sending.isSome = true ∧
      (after .bulletinBegin bare).line.queue.status = .inFlight (.status firstStatus 0) 0 none := by decide

/-- A SHED-ACK of station 3 on the line (Section 12.1): the dominant start mark, 06h (class 0, sender 3) most significant bit first, and
at the end the recessive echo bit, delimiter and end mark. -/
theorem test_frame_of_shed_ack :
    let levels := frame 3 (.shedAck ⟨.shedding, true⟩)
    levels.take 9 =
        [.dominant, .dominant, .dominant, .dominant, .dominant, .dominant, .recessive, .recessive, .dominant] ∧
      levels.length = 66 ∧ levels.drop 57 = .replicate 9 .recessive := by decide

theorem test_contention_lost_waits_again :
    (after (.contentionLost 0 0) (after .bulletinBegin bare)).line.queue.status = .waiting (.status firstStatus 0) 0 := by
  decide

theorem test_send_success_empties :
    (after (.sendComplete .success) (sending .travel (.travel (travelAt 0)) none)).line.queue.travel = .empty := by decide

/-- The 32nd error in a row makes the line QUIET (R17, R18). -/
theorem test_send_failure_quiets :
    let s := sending .travel (.travel (travelAt 0)) none
    let t := after (.sendComplete .mismatch) { s with line := { s.line with errors := 31 } }
    t.line.state = .quiet ∧ t.line.quietTimer = some 10000 ∧ t.alarm .lineQuiet = true := by decide

theorem test_quiet_over :
    let s : State := { later with line := { later.line with state := .quiet, errors := 32, quietTimer := some 100000 } }
    (after .quietTimerExpiry s).line.state = .speaking ∧ (after .quietTimerExpiry s).line.errors = 0 := by decide

theorem test_duplicate_over :
    let s : State := { later with line := { later.line with duplicateTimer := some 100000 } }
    s.alarm .duplicateStation = true ∧ (after .duplicateTimerExpiry s).alarm .duplicateStation = false := by decide

theorem test_received_cut_off : (after (.bulletinReceived [0x30, 0x04, 0x0f]) rig).line.receiveErrors = 1 := by decide

/-- A WAKE from console 9 to all stations. -/
theorem test_received_wake :
    (after (.bulletinReceived [0x52, 0x09, 0x0f, 0x00, 0x92, 0x3c]) parked).sup.station = .waking := by decide +kernel

theorem test_stale_travel_slot :
    (following.line.peers.get 2).isDue .travel following.now = true ∧
      (after (.peerSlotStale 2 .travel) following).travel.source = .station 3 := by decide +kernel

theorem test_travel_cadence :
    let s : State := { rig with now := 1000 }
    (after .travelCadence s).line.queue.travel = .waiting (.travel ⟨0, 0, 0, .stopped, false⟩) 0 ∧
      (after .travelCadence s).travel.cadence = some 2000 := by decide

theorem test_height_cadence_in_off : (after .heightCadence { rig with now := 1000 }).line.queue.height = .empty := by decide
theorem test_height_cadence_in_manual :
    (after .heightCadence { jogging with now := 1000 }).line.queue.waitsAt .height = some 0 := by decide
theorem test_level_cadence : (after .levelCadence { rig with now := 5000 }).line.queue.waitsAt .level = some 0 := by decide
theorem test_status_cadence : (after .statusCadence { rig with now := 10000 }).line.queue.waitsAt .status = some 0 := by decide

/-! ## Travel -/

/-- The worked example of Section 2.2: 3250 + 100 − 3333 = 17 at 1201. -/
theorem test_forward_pulse :
    (after (.encoderChange 1) paving).travel.chainage = 1201 ∧ (after (.encoderChange 1) paving).travel.remainder = 17 := by
  decide

/-- At the start of a pour, a backward pulse leaves the chainage at 0 and the remainder at 0. -/
theorem test_backward_pulse_at_zero : backwardPulse 40 0 3333 = (0, 0) ∧ backwardPulse 84 1202 3333 = (3317, 1201) := by decide

/-- A net count of 42 in 500 ms at P = 1000 is 5.0 m/min (the example of R27). -/
theorem test_speed :
    let s : State :=
      { paving with
        now := 1000
        travel := { paving.travel with page := some ⟨1000, 3⟩, bins := [10, 10, 10, 10, 50], currentBin := 2 } }
    (after .speedTimerExpiry s).travel.speed = 50 := by decide

theorem test_stop :
    (after .stopTimerExpiry { paving with now := 30000 }).travel.state = .stopped ∧
      (after .stopTimerExpiry { paving with now := 30000 }).travel.mark = 1200 := by decide

theorem test_rebase_clamps :
    (after (.rebase 100000001) paving).travel.chainage = 100000000 ∧ (after (.rebase 100000001) paving).travel.epoch = 1 := by
  decide

/-! ## Heating and the generator -/

/-- The tenth good crossing starts a window. -/
theorem test_tenth_crossing :
    let s : State := { rig with now := 200, heat := { rig.heat with runCount := 9, lastCrossing := some 0 } }
    (after (.zeroCrossing 400 (.all 0)) s).heat.supply = .running := by decide

/-- The worked case of Section 4.7 and that of Section 4.6: the share at station 1, and its cut by F = 224. -/
theorem test_share : shareOf 2400 1000 3000 256 = 800 ∧ shareOf 2400 1000 3000 224 = 700 ∧ shareOf 2400 1000 2000 224 = 875 := by
  decide

/-- The worked example of Section 3.3: station 5 with three zones, and a share of 200. -/
theorem test_allocation :
    allocate 200 [(0, 90), (1, 37), (2, 150)] = [(0, 90), (1, 37), (2, 73)] ∧ dutyOf 90 150 = 30 ∧ dutyOf 37 150 = 12 ∧
      dutyOf 73 150 = 24 ∧ isOnSlot 9 30 30 = true ∧ isOnSlot 10 30 30 = false ∧ isOnSlot 13 13 24 = true ∧
      isOnSlot 37 13 24 = false := by decide

theorem test_supply_lost :
    let t := after .supplyTimerExpiry { heating with now := 1000 }
    t.heat.supply = .lost ∧ t.heating = .noSupply ∧ (t.heat.zones.get 0).out = false := by decide

theorem test_idle_demand :
    (after .idleDemandTimerExpiry { rig with now := 10000 }).line.queue.demand =
      .waiting (.demand ⟨0, .noSettings, 256, 0⟩) 0 := by decide

theorem test_overtemp_trips :
    ((after (.heatSensorTimerExpiry ⟨.value 220, .value 219, .openCircuit, .value 301⟩) { rig with now := 1000 }).heat.zones.toList.map
      (·.state)) = [.tripped .overtemp, .idle, .tripped .sensor, .tripped .sensor] := by decide

/-- 130 % of 1000 W at 400 V is 3.25 A. -/
theorem test_overcurrent :
    ((after (.zoneOvercurrent 0 3251) heating).heat.zones.get 0).state = .tripped .overcurrent ∧
      ((after (.zoneOvercurrent 0 3250) heating).heat.zones.get 0).state = .regulating := by decide

theorem test_leakage : ((after (.leakageInputActive true) heating).heat.zones.get 0).state = .tripped .leakage := by decide

theorem test_mode_heating_off :
    ((after (.modeHeating 9 false) heating).heat.zones.get 0).state = .idle ∧ (after (.modeHeating 9 false) heating).heating = .off := by
  decide

theorem test_clear_needs_valid_sensor :
    let s : State :=
      { rig with heat := { rig.heat with zones := rig.heat.zones.set 1 { rig.heat.zones.get 1 with state := .tripped .sensor, sensorFault := true } } }
    ((after (.clearHeating 9) s).heat.zones.get 1).state = .tripped .sensor := by decide

theorem test_shed_all : (after .shedAll rig).load.status = .shed ∧ (after .shedAll rig).line.queue.waitsAt .shedAck = some 0 := by
  decide

theorem test_restore : (after .restore (after .shedAll rig)).load.standing = false := by decide

/-! ## Levelling -/

theorem test_reading_out_of_range :
    (after (.gradeSlopeReading .grade (.value 1001)) steering).level.condition = .hold ∧
      (after (.gradeSlopeReading .grade (.value 1000)) steering).level.grade.last = some 1000 := by decide

theorem test_silence :
    (after (.gradeSlopeSilenceExpiry .grade) { steering with now := 2000 }).level.grade = ⟨some (-80), true, none⟩ := by decide

/-- The worked example of Section 5.6: e = 80 asks for RAISE at 99 %, end 99 ms. -/
theorem test_period : (after .periodStart steering).level.driver = .driving ⟨.raise, .auto, 990⟩ := by decide

theorem test_pulse_end :
    (after .pulseEnd { steering with now := 990, level := { steering.level with driver := .driving ⟨.raise, .auto, 990⟩ } }).level.driver =
      .dead (.one .lower) (some 1290) none := by decide

/-- The worked example of Section 5.7: at the end of the dead time the waiting LOWER runs its full 100 ms. -/
theorem test_dead_time :
    (after .deadTimeExpiry
        { jogging with
          now := 2400
          level := { jogging.level with driver := .dead (.one .lower) (some 2400) (some ⟨.lower, .jog, .length 1000⟩) } }).level.driver =
      .driving ⟨.lower, .jog, 3400⟩ := by decide

theorem test_mode_levelling_without_page :
    (after (.modeLevelling 9 .autoGrade) rig).sup.outcome = some ⟨.mode, some .levelling, 9, some .noPage⟩ := by decide

theorem test_jog_reverses :
    (after (.jog 9 .lower 100)
        { jogging with now := 2000, level := { jogging.level with driver := .driving ⟨.raise, .jog, 4200⟩ } }).level.driver =
      .dead (.one .lower) (some 2400) (some ⟨.lower, .jog, .length 1000⟩) := by decide

theorem test_jog_shifts_reference : (after (.jog 9 .raise 0) steering).level.gradeRef = 10 := by decide

/-! ## Feed -/

theorem test_feed_level_out_of_range : (after (.feedLevelReading .tunnel (.value 101)) conveying).feed.tunnel.fault = true := by
  decide

theorem test_feed_silence : (after (.feedSensorSilenceExpiry .tunnel) { conveying with now := 3000 }).feed.tunnel.fault = true := by
  decide

/-- The worked example of Section 7.5: a target of 300 + 150 = 450, so a command of 50 after the first period. -/
theorem test_control_period :
    feedTarget 60 50 10 60 45 = 450 ∧ (after .controlPeriod conveying).feed.conveyor.command = 50 := by decide

/-- The worked example of Section 7.7: a boosted setpoint of 70 gives 160 + 20 × 32 = 800. -/
theorem test_boosted_target : feedPage.setpointUsed .auger true = 70 ∧ feedTarget 40 40 20 70 38 = 800 := by decide

theorem test_hold_over :
    let s : State := { later with feed := { later.feed with auger := { later.feed.auger with mode := .auto, condition := .sensorHold, holdTimer := some 1 } } }
    (after (.holdTimerExpiry .auger) s).feed.auger.condition = .sensorRamp := by decide

theorem test_speed_pulse :
    let s : State := { later with feed := { later.feed with auger := { later.feed.auger with lastPulse := some 34465 } } }
    (after (.driveSpeedPulse .auger) s).feed.auger.period = some 65535 ∧
      (after (.driveSpeedPulse .auger) { s with now := 100001 }).feed.auger.period = none := by decide +kernel

theorem test_capture_timeout :
    let s : State :=
      { later with feed := { later.feed with auger := { later.feed.auger with period := some 10, lastPulse := some 34465 } } }
    (after (.speedCaptureTimeout .auger) s).feed.auger.period = none := by decide

theorem test_stall :
    let s : State :=
      { later with feed := { later.feed with auger := { later.feed.auger with mode := .manual, condition := .driving, command := 200, stallTimer := some 1 } } }
    (after (.stallTimerExpiry .auger) s).feed.auger.condition = .stalled := by decide

theorem test_mode_conveyor_clamps :
    (after (.modeConveyorAuger 9 .conveyor .manual 1001) rig).feed.conveyor.manualTarget = 1000 := by decide

/-! ## Rows, ring and station -/

theorem test_width_of_an_extension :
    (after (.widthReading (.value 300)) (.poweredOn 16 ⟨0, false⟩ 0)).width = 125 ∧
      (after (.widthReading (.value 60)) (.poweredOn 16 ⟨0, false⟩ 0)).width = 60 := by decide

theorem test_sweep_counts :
    ((after (.sweep true (.replicate 16 150)) recording).rows.openRow.map fun r => (r.sweeps, r.cells.head?)) =
      some (1, some ⟨150, 1, some 150⟩) := by decide

theorem test_scanner_silent : (after .scannerSilenceExpiry { rig with now := 5000 }).alarm .scannerFault = true := by decide

/-- The pulse to 1201 closes the row of 25 cm and opens the next at its end. -/
theorem test_step_close :
    let t := after (.encoderChange 1) recording
    t.ring.rows.map (fun h => (h.seq, h.row.start, h.row.length)) = [(0, 1176, 25)] ∧
      (t.rows.openRow.map fun r => (r.start, r.finish)) = some (1201, 1225) := by decide

theorem test_collect_offers_first_row :
    (after (.collect 12 0 2) stored).line.queue.record = .waiting (.record ⟨12, ⟨0, aRow⟩⟩) 0 := by decide

theorem test_release : (after (.release 0) stored).ring.rows = [⟨1, aRow⟩] ∧ (after (.release 0) stored).ring.released = 1 := by decide

theorem test_settings_clamp :
    (after (.settings (.travel ⟨99, 11⟩)) bare).travel.page = some ⟨100, 10⟩ ∧
      (after (.settings (.travel ⟨99, 11⟩)) bare).alarm .settingsClamped = true := by decide

theorem test_page_age :
    let s : State := { later with settings := { later.settings with travel := some ⟨⟨1000, 3⟩, 0, false⟩ } }
    (after (.pageAgeExpiry .travel) s).settings.anyStale = false ∧
      (after (.pageAgeExpiry .travel) { s with now := 100001 }).settings.anyStale = true := by decide

theorem test_park_refused_in_auto :
    (after (.park 9 .cold) steering).sup.outcome = some ⟨.park, none, 9, some .levellingAuto⟩ := by decide

theorem test_park : (after (.park 9 .cold) rig).sup.station = .park ∧ (after (.park 9 .cold) rig).rows.scannerOn = false := by decide

theorem test_wake : (after .wake parked).sup.station = .waking ∧ (after .wake parked).sup.wakingTimer = some 50000 := by decide

theorem test_waking_over :
    let s : State := { parked with now := 50000, sup := { parked.sup with station := .waking, option := none, wakingTimer := some 50000 } }
    (after .wakingTimerExpiry s).sup.station = .run := by decide

theorem test_restart : (after .restart heating).phase = .warm (some 100) false .restartCommand := by decide

/-- A good RESTART is echoed (R9), and the restart that it asserts leaves the echo standing. -/
theorem test_restart_is_echoed :
    readBulletin (framed 2 9 12 15 []) = some ⟨9, 12, 15, []⟩ ∧
      (after (.bulletinReceived (framed 2 9 12 15 [])) rig).line.echoed = true ∧
      (after (.bulletinReceived (framed 2 9 12 15 [])) rig).phase = .warm (some 100) false .restartCommand := by decide +kernel

theorem test_restart_over :
    let s : State := { after .restart heating with now := 100 }
    (after .restartTimerExpiry s).phase = .running ∧ (after .restartTimerExpiry s).sup.resetCause = .restartCommand := by decide

theorem test_restart_pin_prolongs :
    let s : State := { after .restartPinActive (after .restart heating) with now := 100 }
    (after .restartTimerExpiry s).phase = .warm none true .restartPin ∧
      (after .restartPinInactive (after .restartTimerExpiry s)).sup.resetCause = .restartPin := by decide

theorem test_power_on :
    let s := after .powerOnResetAssert stored
    s.phase = .powerOn 0 ∧ (after (.powerOnResetRelease 0) { s with now := 499 }).phase = .powerOn 0 ∧
      (after (.powerOnResetRelease 5) { s with now := 500 }).ring.rows = [] ∧
      (after (.powerOnResetRelease 5) { s with now := 500 }).straps.station = 5 := by decide

/-! ## Witnesses: for each statement with premises, concrete states and operands that meet them, clause by clause in the order
of the statement -/

/-- The premises of the two sendings' statements: one slot in flight and no other. -/
theorem sending_only (k : StationKind) (c : Content) (f : Option Content) : (sending k c f).line.queue.OnlyFlying k := by
  intro other h
  cases k <;> cases other <;> first | exact absurd rfl h | rfl

theorem witness_StepRunsFrontCommand :
    ({ bare with pending := [.wake, .restart] } : State).pending = .wake :: [.restart] := by decide

theorem witness_CommandsKeepQueueAndClock : bare.pending = [] := by decide

theorem witness_ChangesAreReported :
    ∃ t, rig.phase = .running ∧ exec .shedAll rig = .next t ∧ t.phase = .running ∧ rig.statusStates ≠ t.statusStates :=
  ⟨after .shedAll rig, by decide, rfl, by decide, by decide⟩

/-- The rig with a TRAVEL and a HEIGHT of class 1 waiting, the HEIGHT older, and a STATUS of class 4 older still. -/
def queued : State :=
  { rig with
    line :=
      { rig.line with
        queue :=
          { rig.line.queue with
            travel := .waiting (.travel (travelAt 0)) 2, height := .waiting (.height rig.heightContent) 1
            status := .waiting (.status firstStatus 0) 0, nextPosition := 3 } } }

theorem witness_BeginTakesLowestClassAndOldest :
    (queued.Ready ∧ queued.line.state = .speaking ∧ (∀ k, (queued.line.queue.get k).isInFlight = false) ∧
      queued.line.queue.get .height = .waiting (.height rig.heightContent) 1 ∧
      ∀ (k' : StationKind) (c' : Content) (p' : Nat), k' ≠ .height → queued.line.queue.get k' = .waiting c' p' →
        StationKind.height.cls < k'.cls ∨ (StationKind.height.cls = k'.cls ∧ 1 < p')) ∧
    (({ queued with line := { queued.line with state := .quiet } } : State).Ready ∧
      ({ queued with line := { queued.line with state := .quiet } } : State).line.state = .quiet) ∧
    ((sending .travel (.travel (travelAt 0)) none).Ready ∧
      ((sending .travel (.travel (travelAt 0)) none).line.queue.get .travel).isInFlight = true) ∧
    (rig.Ready ∧ ∀ k, rig.line.queue.waitsAt k = none) := by
  refine ⟨⟨⟨rfl, rfl⟩, rfl, ?_, rfl, ?_⟩, ⟨⟨rfl, rfl⟩, rfl⟩, ⟨⟨rfl, rfl⟩, rfl⟩, ⟨rfl, rfl⟩, ?_⟩
  · intro k
    cases k <;> rfl
  · intro k' c' p' h g
    cases k' <;> first | exact absurd rfl h | (injection g with _ g; subst g; decide) | cases g
  · intro k
    cases k <;> rfl

theorem witness_LostContentionKeepsEntry :
    let s := sending .travel (.travel (travelAt 0)) (some (.travel (travelAt 1)))
    s.Ready ∧ s.line.queue.get .travel = .inFlight (.travel (travelAt 0)) 0 (some (.travel (travelAt 1))) ∧
      s.line.queue.OnlyFlying .travel ∧
      ¬((0 : Fin 8).val = StationKind.travel.cls ∧ (0 : Fin 16).val = s.straps.station.val) ∧
      ((1 : Fin 8).val = StationKind.travel.cls ∧ (0 : Fin 16).val = s.straps.station.val) :=
  ⟨⟨rfl, rfl⟩, rfl, sending_only _ _ _, by decide, by decide⟩

theorem witness_SuccessSettlesSlot :
    (let s := sending .level (.level rig.levelContent) none
     s.Ready ∧ s.line.state = .speaking ∧ s.line.queue.get .level = .inFlight (.level rig.levelContent) 0 none ∧
      s.line.queue.OnlyFlying .level) ∧
    (let s := sending .record (.record ⟨9, ⟨0, aRow⟩⟩) none
     s.phase = .running ∧ s.line.state = .speaking ∧
      s.line.queue.get .record = .inFlight (.record ⟨9, ⟨0, aRow⟩⟩) 0 none ∧ s.line.queue.OnlyFlying .record) ∧
    (let s := sending .status (.status { firstStatus with alarms := [22] } 3) none
     let raised : State := { s with sup := { s.sup with events := ⟨some 4, some 4, some 3, some 0⟩ } }
     raised.phase = .running ∧ raised.line.queue.get .status = .inFlight (.status { firstStatus with alarms := [22] } 3) 0 none ∧
      raised.line.queue.OnlyFlying .status ∧ raised.sup.events.lineQuiet = some 3 ∧ raised.sup.events.ringOverwrite = some 4) :=
  ⟨⟨⟨rfl, rfl⟩, rfl, rfl, sending_only _ _ _⟩, ⟨rfl, rfl, rfl, sending_only _ _ _⟩, rfl, rfl, sending_only _ _ _, rfl, rfl⟩

theorem witness_FailureReturnsSlot :
    let s := sending .demand (.demand ⟨0, .off, 256, 0⟩) none
    let low : State := { s with line := { s.line with errors := 30 } }
    let last : State := { s with line := { s.line with errors := 31 } }
    (low.Ready ∧ low.line.state = .speaking ∧ low.line.queue.get .demand = .inFlight (.demand ⟨0, .off, 256, 0⟩) 0 none ∧
      low.line.queue.OnlyFlying .demand ∧ SendResult.missingEcho ≠ .success ∧ low.line.errors + 1 < 32) ∧
    (last.phase = .running ∧ last.line.state = .speaking ∧
      last.line.queue.get .demand = .inFlight (.demand ⟨0, .off, 256, 0⟩) 0 none ∧ last.line.queue.OnlyFlying .demand ∧
      SendResult.mismatch ≠ .success ∧ last.line.errors + 1 = 32) :=
  ⟨⟨⟨rfl, rfl⟩, rfl, rfl, sending_only _ _ _, by decide, by decide⟩, rfl, rfl, rfl, sending_only _ _ _, by decide, by decide⟩

theorem witness_LineTimersExpire :
    let s : State := { later with line := { later.line with quietTimer := some 100000, duplicateTimer := some 100000 } }
    let early : State := { s with now := 99999 }
    (s.phase = .running ∧ s.line.quietTimer = some 100000 ∧ s.line.duplicateTimer = some 100000 ∧ 100000 ≤ s.now) ∧
      ∀ d, (early.line.quietTimer = some d ∨ early.line.duplicateTimer = some d) → early.now < d := by
  refine ⟨by decide, ?_⟩
  rintro d (h | h) <;> · injection h with h; subst h; decide

theorem witness_SentBulletinsAreGood :
    7 < 8 ∧ (bulletin 3 (.shedAck ⟨.shedding, true⟩))[0]? = some 0x06 ∧ (bulletin 3 (.shedAck ⟨.shedding, true⟩)).length = 7 ∧
      (bulletin 3 (.shedAck ⟨.shedding, true⟩))[6]?.isSome = true := by decide

theorem witness_PeerContentsRoundTrip :
    (PeerContent.travel ⟨4294967295, 255, -32768, .lost, true⟩).Fits ∧
      (PeerContent.height ⟨.right, .autoSlope, 7, 3, 15, 3, true, true, some (-32767), some 32767, none⟩).Fits ∧
      (PeerContent.demand ⟨65535, .noSupply, 65535, 65535⟩).Fits ∧
      (PeerContent.level ⟨.left, .boltOn, some 254, true, true, some ⟨⟨3, 7, 65535, some 65535⟩, ⟨0, 0, 0, none⟩, true, 15, none, true⟩⟩).Fits ∧
      (PeerContent.travel (travelAt 0)).offered = some (.travel (travelAt 0)) := by
  refine ⟨?_, ?_, ?_, ?_, rfl⟩
  · exact ⟨by decide, by decide, by decide⟩
  · refine ⟨by decide, by decide, by decide, by decide, ?_, ?_, ?_⟩ <;> · intro x h; cases h <;> decide
  · exact ⟨by decide, by decide, by decide⟩
  · refine ⟨?_, ?_⟩
    · intro x h
      injection h with h
      omega
    · intro o h
      injection h with h
      subst h
      refine ⟨⟨by decide, by decide, by decide, ?_⟩, ⟨by decide, by decide, by decide, ?_⟩, by decide, ?_⟩ <;>
        · intro x h
          cases h <;> decide

theorem witness_PeerArrivalEntersSlot :
    (rig.phase = .running ∧ (7 : Fin 8) ≠ rig.straps.station ∧ (PeerContent.demand ⟨0, .off, 256, 0⟩).Fits ∧
      (PeerContent.demand ⟨0, .off, 256, 0⟩).offered = some (.demand ⟨0, .off, 256, 0⟩) ∧
      (PeerContent.demand ⟨0, .off, 256, 0⟩).isTravel = false ∧ (PeerContent.travel (travelAt 0)).isTravel = true ∧
      rig.straps.encoder = true) ∧
    (readBulletin (framed 4 7 16 15 (.replicate 48 0)) = some ⟨7, 16, 15, .replicate 48 0⟩ ∧
      (7 : Fin 16).val = (7 : Fin 8).val ∧ (List.replicate 48 (0 : Byte)).length = 48) :=
  ⟨⟨rfl, by decide, ⟨by decide, by decide, by decide⟩, rfl, rfl, rfl, rfl⟩, by decide +kernel⟩

theorem witness_UntakenBulletinsAreDiscarded :
    rig.phase = .running ∧
    (([0x30, 0x04, 0x0f] : List Byte).length < 4 ∧ 48 < fieldAt [0x30, 0x04, 0x0f, 49] 3 1 ∧
      ([0x12, 0x01, 0x0f, 0x00, 0x55] : List Byte).length < fieldAt [0x12, 0x01, 0x0f, 0x00, 0x55] 3 1 + 6 ∧
      (checksum (([0x12, 0x01, 0x0f, 0x00, 0x55, 0x02] : List Byte).take 4)).toNat ≠
        fieldAt [0x12, 0x01, 0x0f, 0x00, 0x55, 0x02] 4 2) ∧
    readBulletin (framed 1 0 4 15 (.replicate 8 0)) = some ⟨0, 4, 15, .replicate 8 0⟩ ∧
    readBulletin (framed 0 3 3 15 [0]) = some ⟨3, 3, 15, [0]⟩ ∧ readBulletin (framed 1 8 4 15 (.replicate 8 0)) = some ⟨8, 4, 15, .replicate 8 0⟩ ∧
    readBulletin (framed 2 9 9 1 []) = some ⟨9, 9, 1, []⟩ ∧ readBulletin (framed 2 9 21 15 []) = some ⟨9, 21, 15, []⟩ ∧
    readBulletin (framed 2 9 0 15 []) = some ⟨9, 0, 15, []⟩ ∧ readBulletin (framed 2 9 9 15 [0]) = some ⟨9, 9, 15, [0]⟩ ∧
    payloadLength 9 ≠ some ([0] : List Byte).length := by decide +kernel

/-- The same for the discards of R183: each selecting field at the first value that names nothing. -/
theorem witness_UntakenBulletinsAreDiscarded_by_value :
    (readBulletin (framed 3 3 14 15 (0x60 :: .replicate 14 0)) = some ⟨3, 14, 15, 0x60 :: .replicate 14 0⟩ ∧
      bits (fieldAt (0x60 :: .replicate 14 0) 0 1) 6 5 = 3) ∧
    (readBulletin (framed 2 9 6 15 [4, 0, 0, 0]) = some ⟨9, 6, 15, [4, 0, 0, 0]⟩ ∧ 3 < fieldAt [4, 0, 0, 0] 0 1) ∧
    (readBulletin (framed 2 9 6 15 [0, 2, 0, 0]) = some ⟨9, 6, 15, [0, 2, 0, 0]⟩ ∧ 1 < fieldAt [0, 2, 0, 0] 1 1) ∧
    (readBulletin (framed 2 9 6 15 [1, 4, 0, 0]) = some ⟨9, 6, 15, [1, 4, 0, 0]⟩ ∧ 3 < fieldAt [1, 4, 0, 0] 1 1) ∧
    (readBulletin (framed 2 9 6 15 [3, 3, 0, 0]) = some ⟨9, 6, 15, [3, 3, 0, 0]⟩ ∧ 2 < fieldAt [3, 3, 0, 0] 1 1) ∧
    (readBulletin (framed 2 9 7 15 [2, 0, 0]) = some ⟨9, 7, 15, [2, 0, 0]⟩ ∧ 1 < fieldAt [2, 0, 0] 0 1) ∧
    (readBulletin (framed 2 9 8 15 [2]) = some ⟨9, 8, 15, [2]⟩ ∧ readBulletin (framed 2 9 10 15 [1]) = some ⟨9, 10, 15, [1]⟩) ∧
    (readBulletin (framed 3 9 15 15 (5 :: .replicate 39 0)) = some ⟨9, 15, 15, 5 :: .replicate 39 0⟩ ∧
      4 < fieldAt (5 :: .replicate 39 0) 0 1) := by decide +kernel

theorem witness_LineCommandsReachTheirOwners :
    rig.phase = .running ∧ readBulletin [0x52, 0x07, 0x00, 0x03, 0x01, 0x01, 0x2c, 0xc9, 0xc8] = some ⟨9, 7, 0, [0x01, 0x01, 0x2c]⟩ ∧
      8 ≤ (9 : Fin 16).val ∧ payloadLength 7 = some ([0x01, 0x01, 0x2c] : List Byte).length ∧ 0 = rig.straps.station.val ∧
      decodeCommand 7 [0x01, 0x01, 0x2c] = some (.jog .lower 300) := by decide +kernel

/-- The rig with a peer's slots FRESH since just over their limits. -/
def ageing : State :=
  { later with
    line :=
      { later.line with
        peers :=
          later.line.peers.set 7
            ⟨.fresh (travelAt 0) 96999, .fresh rig.heightContent 96999, .fresh ⟨0, .off, 256, 0⟩ 74999,
              .fresh rig.levelContent 84999, .fresh firstStatus 49999⟩ } }

theorem witness_PeerSlotsTurnStale :
    ageing.phase = .running ∧ ageing.straps.encoder = true ∧
    ((ageing.line.peers.get 7).travel = .fresh (travelAt 0) 96999 ∧ 96999 + 3000 < ageing.now) ∧
    ((ageing.line.peers.get 7).height = .fresh rig.heightContent 96999 ∧ 96999 + 3000 < ageing.now) ∧
    ((ageing.line.peers.get 7).demand = .fresh ⟨0, .off, 256, 0⟩ 74999 ∧ 74999 + 25000 < ageing.now) ∧
    ((ageing.line.peers.get 7).level = .fresh rig.levelContent 84999 ∧ 84999 + 15000 < ageing.now) ∧
    ((ageing.line.peers.get 7).status = .fresh firstStatus 49999 ∧ 49999 + 50000 < ageing.now) ∧
    (ageing.Ready ∧ (({ ageing with now := 99999 } : State).line.peers.get 7).isDue .travel 99999 = false) :=
  ⟨rfl, rfl, ⟨rfl, by decide⟩, ⟨rfl, by decide⟩, ⟨rfl, by decide⟩, ⟨rfl, by decide⟩, ⟨rfl, by decide⟩, ⟨rfl, rfl⟩, by decide⟩

theorem witness_CadencesOffer :
    rig.phase = .running ∧ (rig.travel.cadence = some 1000 ∧ rig.level.cadence = some 1000 ∧ rig.feed.cadence = some 5000 ∧
      rig.sup.cadence = some 10000 ∧ rig.load.idleTimer = some 10000) ∧ 10000 ≤ ({ rig with now := 10000 } : State).now := by decide

theorem witness_EncoderPulsesMoveChainage :
    let backing : State := { paving with travel := { paving.travel with steps := -3, remainder := 99 } }
    let turning : State := { backing with travel := { backing.travel with mark := 1204 } }
    let starting : State := { paving with travel := { paving.travel with state := .stopped, mark := 1196, stopTimer := none } }
    let still : State := { paving with travel := { paving.travel with remainder := 3232 } }
    let raw : State := { rig with travel := { rig.travel with steps := 3 } }
    let rows : Rows := { recording.rows with openRow := some (emptyRow 1176 1225) }
    (paving.phase = .running ∧ paving.straps.encoder = true ∧ paving.travel.page = some ⟨3333, 3⟩ ∧ paving.travel.steps = 3) ∧
    (backing.phase = .running ∧ backing.straps.encoder = true ∧ backing.travel.page = some ⟨3333, 3⟩ ∧ backing.travel.steps = -3) ∧
    (3333 ≤ paving.travel.remainder + 100 ∧ paving.travel.chainage < 2147483647 ∧ 1201 = paving.travel.chainage + 1 ∧
      backing.travel.remainder < 100 ∧ 1199 + 1 = backing.travel.chainage) ∧
    (turning.travel.ruled 1199 30000 false = (.reversing, 1199, none) ∧ turning.travel.state ≠ .reversing ∧
      starting.travel.ruled 1201 30000 true = (.paving, 1201, some 30000) ∧ starting.travel.state ≠ .paving ∧
      rig.straps.scanner = true ∧ rows.openRow = some (emptyRow 1176 1225) ∧ 1201 < (emptyRow 1176 1225).finish) ∧
    (still.travel.remainder + 100 < 3333 ∧ 100 ≤ paving.travel.remainder) ∧
    (raw.phase = .running ∧ raw.straps.encoder = true ∧ raw.travel.page = none ∧ raw.travel.steps = (if true then 3 else -3)) ∧
    (rig.phase = .running ∧ rig.straps.encoder = true ∧ -4 < backing.travel.steps ∧ backing.travel.steps < 3 ∧
      -3 < paving.travel.steps ∧ paving.travel.steps < 4) ∧
    (bare.phase = .running ∧ bare.straps.encoder = false ∧ (2 : Fin 4) = rig.pins.encoder + 2) := by decide

theorem witness_PulsesLoseNothingToRounding :
    100 ≤ 100 ∧ 99 < 100 ∧ 2147483547 + 100 ≤ 2147483647 ∧ 2147483646 < 2147483647 := by decide

theorem witness_SpeedFollowsFiveBins :
    let s : State := { paving with now := 1000 }
    s.phase = .running ∧ s.travel.speedTimer = some 1000 ∧ 1000 ≤ s.now := by decide

theorem witness_StopTimerStopsAndFreezes :
    let s : State := { steering with now := 30000 }
    let lurching : State := { settling with now := 30000 }
    let rowed : State := { recording with now := 30000 }
    (s.phase = .running ∧ s.travel.stopTimer = some 30000 ∧ 30000 ≤ s.now ∧ s.travel.state = .paving ∧ s.levelling = true ∧
      isAuto s.level.mode = true ∧ s.level.condition = .active ∧
      ({ bare with travel := s.travel, now := 30000 } : State).levelling = false ∧ bare.straps.scanner = false) ∧
    (lurching.phase = .running ∧ lurching.travel.stopTimer = some 30000 ∧ lurching.travel.state = .paving ∧
      lurching.levelling = true ∧ isAuto lurching.level.mode = true ∧ lurching.level.condition = .settling) ∧
    (rowed.phase = .running ∧ rowed.travel.stopTimer = some 30000 ∧ rowed.travel.state = .paving ∧
      rowed.straps.scanner = true ∧ rowed.rows.openRow = some (emptyRow 1176 1201)) := by decide

theorem witness_RebaseSetsTravel : rig.phase = .running ∧ rig.straps.scanner = true := by decide

theorem witness_FollowerTakesLowestCandidate :
    let lost : State := { following with travel := { following.travel with state := .lost, source := .none, mark := 495 } }
    (following.phase = .running ∧ following.straps.encoder = false ∧
      (following.line.peers.get 2).isDue .travel following.now = true ∧ following.travel.source ≠ .none) ∧
    ((2 : Fin 8) ≠ following.straps.station ∧ (travelAt 500).counts = true ∧ (∀ k < 2, following.candidate k = none) ∧
      (travelAt 500).epoch = following.travel.epoch ∧ following.travel.page = some ⟨1000, 3⟩ ∧
      following.travel.state ≠ .lost ∧ { travelAt 500 with epoch := 1 }.epoch ≠ following.travel.epoch ∧
      (∀ k < 2, lost.candidate k = none) ∧ lost.travel.state = .lost ∧ lost.travel.mark + 5 ≤ (travelAt 500).chainage) ∧
    ((2 : Fin 8) < 3 ∧ following.travel.source = .station 2 ∧ (following.candidate 2).isSome = true) := by decide

theorem witness_FollowerTakesLowestCandidate_fits : (travelAt 500).Fits ∧ { travelAt 500 with epoch := 1 }.Fits := by
  unfold TravelContent.Fits
  decide

theorem witness_PlateSamplesTripZones :
    let s : State := { rig with now := 1000 }
    let samples : Quad Reading := ⟨.value (-40), .value 301, .openCircuit, .value 300⟩
    (s.phase = .running ∧ s.heat.sensorTimer = some 1000 ∧ 1000 ≤ s.now ∧ s.straps.zoneFitted 3 = true ∧
      bare.straps.zoneFitted 0 = false ∧ samples.get 0 = .value (-40) ∧ (-40 : Int) ≤ -40 ∧ samples.get 3 = .value 300) ∧
    (∀ v, samples.get 1 = .value v → v < -40 ∨ 300 < v) ∧
    ((after (.heatSensorTimerExpiry samples) s).heat.zones.get 1).state ≠ (s.heat.zones.get 1).state ∧
    ∀ z : Fin 4, ((after (.heatSensorTimerExpiry (.all (.value 219))) s).heat.zones.get z).state = (s.heat.zones.get z).state := by
  refine ⟨by decide, fun v h => ?_, by decide, by decide⟩
  injection h with h
  omega

theorem witness_LeakageAndOvercurrentTrip :
    heating.phase = .running ∧ heating.heat.page = some heatPage ∧
    ((heating.heat.zones.get 0).out = true ∧ (heating.heat.zones.get 0).state = .regulating ∧
      (heating.heat.zones.get 0).cut = false ∧ 130 * (10 * heating.straps.rating) * 1000 < 100 * 3251 * heatPage.nominalVoltage) ∧
    ¬((heating.heat.zones.get 0).out = true ∧ (heating.heat.zones.get 0).state = .regulating ∧
      (heating.heat.zones.get 0).cut = false ∧ 130 * (10 * heating.straps.rating) * 1000 < 100 * 3250 * heatPage.nominalVoltage) := by
  decide

theorem witness_CrossingBeginsSlot :
    let s : State := { heating with heat := { heating.heat with slot := 48 } }
    s.phase = .running ∧ s.heat.supply = .running ∧ s.heat.slot + 1 < 50 ∧ s.straps.zoneFitted 0 = true := by decide

theorem witness_TenGoodCrossingsStartWindow :
    let tenth : State := { rig with now := 250, heat := { rig.heat with runCount := 9, lastCrossing := some 0 } }
    let ninth : State := { rig with now := 140, heat := { rig.heat with runCount := 8, lastCrossing := some 0 } }
    let late : State := { rig with now := 251, heat := { rig.heat with runCount := 8, lastCrossing := some 0 } }
    (tenth.phase = .running ∧ tenth.heat.supply ≠ .running ∧ tenth.heat.runCount = 9 ∧ tenth.heat.lastCrossing = some 0 ∧
      140 ≤ tenth.now - 0 ∧ tenth.now - 0 ≤ 250) ∧
    (ninth.phase = .running ∧ ninth.heat.supply ≠ .running ∧ ninth.heat.runCount ≠ 0 ∧ ninth.heat.runCount < 9 ∧
      ninth.heat.lastCrossing = some 0 ∧ 140 ≤ ninth.now - 0 ∧ ninth.now - 0 ≤ 250) ∧
    (late.phase = .running ∧ late.heat.supply ≠ .running ∧ late.heat.runCount < 10 ∧ late.heat.lastCrossing = some 0 ∧
      250 < late.now - 0) ∧
    (rig.heat.runCount = 0 ∧ rig.heat.supply ≠ .running) := by decide

/-- The rig under power-on reset, 50 ms after the supply was last low. -/
def unpowered : State := { after .powerOnResetAssert rig with now := 500 }

/-- The heating rig at the last slot of its window. -/
def boundary : State := { heating with heat := { heating.heat with slot := 49 } }

theorem witness_BoundaryBoundsShareAndEnergy :
    let tenth : State := { rig with now := 250, heat := { rig.heat with runCount := 9, lastCrossing := some 0 } }
    let opening : State :=
      { boundary with
        heat := { boundary.heat with zones := boundary.heat.zones.set 0 { boundary.heat.zones.get 0 with openCount := 2 } } }
    (boundary.phase = .running ∧ boundary.heat.supply = .running ∧ 50 ≤ boundary.heat.slot + 1 ∧ boundary.load.factor ≤ 256) ∧
    (tenth.phase = .running ∧ tenth.load.factor ≤ 256 ∧ tenth.heat.supply ≠ .running ∧ tenth.heat.runCount = 9 ∧
      tenth.heat.lastCrossing = some 0 ∧ 140 ≤ tenth.now - 0 ∧ tenth.now - 0 ≤ 250) ∧
    (∀ z : Fin 4, decide (z = 0) = true ↔
      (boundary.heat.zones.get z).drew = true ∨
        ((boundary.heat.zones.get z).out = true ∧
          1000 * boundary.straps.rating ≤ (⟨250, 0, 0, 0⟩ : Quad Nat).get z * boundary.heat.volts)) ∧
    (∀ z : Fin 4, false = true ↔
      (opening.heat.zones.get z).drew = true ∨
        ((opening.heat.zones.get z).out = true ∧
          1000 * opening.straps.rating ≤ (⟨249, 0, 0, 0⟩ : Quad Nat).get z * opening.heat.volts)) ∧
    (opening.straps.zoneFitted 0 = true ∧
      ((opening.heat.zones.get 0).openJudged false).state ≠ (opening.heat.zones.get 0).state) ∧
    ∀ z, boundary.straps.zoneFitted z = true →
      ((boundary.heat.zones.get z).openJudged (decide (z = 0))).state = (boundary.heat.zones.get z).state := by decide

theorem witness_SagMovesShedFactor :
    boundary.phase = .running ∧ boundary.heat.supply = .running ∧ 50 ≤ boundary.heat.slot + 1 ∧
      359 < heatPage.sagPercent * heatPage.nominalVoltage / 100 ∧ ¬360 < heatPage.sagPercent * heatPage.nominalVoltage / 100 ∧
      32 ≤ boundary.load.factor ∧ boundary.load.factor ≤ 256 ∧
      (after (.zeroCrossing 400 ⟨0, 0, 0, 0⟩) boundary).heat.page = some heatPage ∧
      (after (.zeroCrossing 400 ⟨0, 0, 0, 0⟩) boundary).heating.draws = true ∧
      (rig.phase = .running ∧ rig.heat.supply ≠ .running) ∧
      (unpowered.phase = .powerOn 0 ∧ 0 + 500 ≤ unpowered.now) := by
  decide

theorem witness_SupplyLossEndsWindow :
    let s : State :=
      { heating with
        now := 1000
        heat := { heating.heat with pending := true }
        load := { heating.load with standing := true, status := .shedding }
        settings := { heating.settings with heat := some ⟨heatPage, 0, false⟩ } }
    let lost : State := { s with heat := { s.heat with supply := .lost } }
    let starting : State :=
      { s with
        heat := { s.heat with supply := .starting, pending := false }, load := { s.load with status := .shed, ack := .waiting } }
    (s.phase = .running ∧ s.heat.supply = .running ∧ s.heat.supplyTimer = some 1000 ∧ 1000 ≤ s.now ∧ s.heat.pending = true ∧
      s.settings.heat = some ⟨heatPage, 0, false⟩ ∧ s.load.standing = true ∧ s.load.status = .shedding) ∧
    (starting.phase = .running ∧ starting.heat.supply ≠ .lost ∧ starting.heat.supply ≠ .running ∧
      starting.heat.supplyTimer = some 1000 ∧ 1000 ≤ starting.now ∧ starting.heat.pending = false ∧
      ¬(starting.load.standing = true ∧ starting.load.status = .shedding)) ∧
    (lost.phase = .running ∧ lost.heat.supply = .lost ∧ lost.heat.supplyTimer = some 1000 ∧ 1000 ≤ lost.now) := by decide

theorem witness_ModeHeatingJudged :
    (bare.phase = .running ∧ bare.straps.fitted = 0) ∧
    (heating.phase = .running ∧ heating.straps.fitted ≠ 0 ∧ heating.heat.mode = true) := by decide

theorem witness_ClearJudgesTrips :
    let s : State :=
      { rig with
        heat :=
          { rig.heat with
            mode := false
            zones := rig.heat.zones.set 3 { rig.heat.zones.get 3 with state := .tripped .overtemp, temperature := some 199, sensorFault := false } } }
    (bare.phase = .running ∧ bare.straps.fitted = 0) ∧ s.phase = .running ∧ s.straps.fitted ≠ 0 ∧
      Instr.clearHeating 9 = .clearHeating 9 ∧
      (Instr.modeHeating 9 true = .modeHeating 9 true ∧ s.heat.mode = false) ∧ s.straps.zoneFitted 3 = true ∧
      (s.heat.zones.get 3).state = .tripped .overtemp ∧ (s.heat.zones.get 0).state.isTripped = false := by decide

theorem witness_ShedOrdersByPair :
    let with' (standing : Bool) (status : ShedStatus) (ack : Ack) (s : State) : State :=
      { s with load := { s.load with standing := standing, status := status, ack := ack } }
    (heating.phase = .running ∧ heating.load.standing = false ∧ heating.load.status = .none ∧ heating.heat.supply = .running ∧
      heating.heating.draws = true) ∧
    (rig.phase = .running ∧ rig.load.standing = false ∧ rig.load.status = .none ∧ rig.heat.supply ≠ .running) ∧
    ((with' false .shedding .notDue heating).load.standing = false ∧ (with' false .shedding .notDue heating).load.status = .shedding) ∧
    ((with' true .shed .sent heating).load.standing = true ∧ (with' true .shed .sent heating).load.status = .shed ∧
      (with' true .shed .sent heating).load.ack = .sent) ∧
    ((with' true .shed .awaitingDemand heating).load.standing = true ∧
      (with' true .shed .awaitingDemand heating).load.ack = .awaitingDemand) ∧
    (readBulletin (framed 0 8 1 3 []) = some ⟨8, 1, 3, []⟩ ∧ (3 : Nat) ≠ rig.straps.station.val ∧ (3 : Nat) ≠ 15) := by decide +kernel

theorem witness_ShedAckFollowsDemand :
    let s := sending .demand (.demand ⟨0, .shed, 256, 0⟩) none
    let due : State := { s with load := { s.load with standing := true, status := .shed, ack := .awaitingDemand } }
    let a := sending .shedAck (.shedAck ⟨.shed, true⟩) none
    (due.phase = .running ∧ due.line.queue.get .demand = .inFlight (.demand ⟨0, .shed, 256, 0⟩) 0 none ∧
      due.line.queue.OnlyFlying .demand ∧ due.load.ack = .awaitingDemand ∧ (⟨0, .shed, 256, 0⟩ : DemandContent).demand = 0 ∧
      s.load.ack ≠ .awaitingDemand) ∧
    (a.phase = .running ∧ a.line.queue.get .shedAck = .inFlight (.shedAck ⟨.shed, true⟩) 0 none ∧
      a.line.queue.OnlyFlying .shedAck) :=
  ⟨⟨rfl, rfl, sending_only .demand _ none, rfl, rfl, by decide⟩, rfl, rfl, sending_only _ _ _⟩

theorem witness_LevellingSensorsJudged :
    (steering.phase = .running ∧ steering.levelling = true ∧ (-1000 : Int) ≤ -1000 ∧ (1000 : Int) ≤ 1000) ∧
    ((∀ v, Reading.openCircuit = .value v → v < -1000 ∨ 1000 < v) ∧ ∀ v, Reading.value 1001 = .value v → v < -1000 ∨ 1000 < v) ∧
    (steering.level.sensor .grade).timer = some 2000 ∧ 2000 ≤ ({ steering with now := 2000 } : State).now ∧
    steering.level.mode = .autoGrade ∧ (LevellingSensor.slope ≠ .grade) ∧ (bare.phase = .running ∧ bare.levelling = false) := by
  refine ⟨by decide, ⟨fun v h => (nomatch h), fun v h => ?_⟩, rfl, by decide, rfl, by decide, by decide⟩
  injection h with h
  omega

theorem witness_PeriodStartRunsControlLaw :
    let partnered : State :=
      { steering with
        level := { steering.level with mode := .autoSlope, slope := ⟨some 10, false, none⟩ }
        line :=
          { steering.line with
            peers :=
              steering.line.peers.set 1
                { steering.line.peers.get 1 with
                  height := .fresh { rig.heightContent with side := .right, mode := .autoGrade } 0 } } }
    let uncaptured : State :=
      { steering with
        level := { steering.level with captured := false, condition := .hold, pending := true }
        settings := { steering.settings with level := some ⟨levelPage, 0, false⟩ } }
    let alone : State := { partnered with line := steering.line }
    let stopped : State := { steering with travel := { steering.travel with state := .stopped } }
    (steering.phase = .running ∧ steering.level.periodTimer = some 0 ∧ 0 ≤ steering.now ∧ steering.level.pending = false ∧
      steering.sup.station = .run ∧ steering.travel.state = .paving ∧ isAuto steering.level.mode = true ∧
      steering.level.captured = true ∧ steering.level.redo = false ∧ steering.level.page = some levelPage ∧
      steering.level.grade.last = some (-80) ∧ steering.level.grade.fault = false ∧ steering.level.mode ≠ .autoSlope ∧
      (after .periodStart steering).level.condition = .active) ∧
    (isAuto uncaptured.level.mode = true ∧ uncaptured.level.captured = false ∧ uncaptured.level.pending = true ∧
      uncaptured.settings.level = some ⟨levelPage, 0, false⟩) ∧
    (partnered.partnerSlot = some (1, { rig.heightContent with side := .right, mode := .autoGrade }) ∧
      alone.partnerSlot = none ∧ alone.level.condition = .active ∧ (after .periodStart alone).level.condition = .hold) ∧
    (stopped.phase = .running ∧ stopped.level.periodTimer = some 0 ∧ isAuto stopped.level.mode = true ∧
      stopped.level.redo = false ∧ stopped.travel.state ≠ .paving) ∧
    (rig.phase = .running ∧ rig.level.periodTimer = some 1000 ∧ 1000 ≤ later.now ∧ isAuto rig.level.mode = false ∧
      rig.level.pending = false) := by decide

theorem witness_ValveDriverFollowsTable :
    (let s : State := { steering with now := 990, level := { steering.level with driver := .driving ⟨.raise, .auto, 990⟩ } }
     s.phase = .running ∧ s.level.driver = .driving ⟨.raise, .auto, 990⟩ ∧ 990 ≤ s.now) ∧
    (let s : State := { later with level := { later.level with driver := .dead (.one .lower) (some 100000) none } }
     s.phase = .running ∧ s.level.driver = .dead (.one .lower) (some 100000) none ∧ 100000 ≤ s.now) ∧
    (∀ e, (⟨.raise, .auto, .until 1⟩ : Request).timing = .until e → 0 < e) ∧
    (∀ e, (⟨.raise, .jog, .length 200⟩ : Request).timing = .until e → 0 < e) ∧
    (⟨.raise, .auto, .until 5⟩ : Request).timing = .until 5 ∧ 5 ≤ 5 := by
  refine ⟨by decide, by decide, fun e h => ?_, fun e h => (nomatch h), rfl, by decide⟩
  injection h with h
  omega

theorem witness_ModeLevellingJudged :
    let paged : State := { steering with settings := { steering.settings with level := some ⟨levelPage, 0, false⟩ } }
    let frozen : State := { paged with level := { paged.level with condition := .frozen } }
    (bare.phase = .running ∧ bare.levelling = false ∧ bare.straps.towStrap = false) ∧
    (parked.levelling = true ∧ isAuto .autoSlope = true ∧ parked.sup.station ≠ .run) ∧
    (rig.levelling = true ∧ rig.sup.station = .run ∧ rig.settings.level = none) ∧
    (paged.phase = .running ∧ paged.levelling = true ∧ paged.sup.station = .run ∧ paged.settings.level.isSome = true ∧
      isAuto paged.level.mode = true ∧ SideMode.autoSlope ≠ paged.level.mode ∧ SideMode.manual ≠ paged.level.mode ∧
      isAuto .manual = false ∧ paged.level.condition ≠ .frozen ∧ paged.level.condition ≠ .settling ∧
      paged.level.grade.fault = false ∧ paged.level.grade.last = some (-80) ∧ paged.level.slope.fault = true) ∧
    (frozen.phase = .running ∧ frozen.levelling = true ∧ frozen.level.condition = .frozen) := by decide

theorem witness_JogJudged :
    let uncaptured : State := { steering with level := { steering.level with captured := false } }
    (bare.phase = .running ∧ bare.levelling = false) ∧ (parked.levelling = true ∧ parked.sup.station ≠ .run) ∧
    (rig.levelling = true ∧ rig.sup.station = .run ∧ rig.level.mode = .off) ∧
    (steering.phase = .running ∧ steering.levelling = true ∧ steering.sup.station = .run ∧ isAuto steering.level.mode = true ∧
      steering.level.captured = true) ∧
    (isAuto uncaptured.level.mode = true ∧ uncaptured.level.captured = false) ∧
    (jogging.phase = .running ∧ jogging.levelling = true ∧ jogging.sup.station = .run ∧ jogging.level.mode = .manual) := by decide

theorem witness_SettleEndResumesSide :
    let frozen : State :=
      { settling with
        travel := { settling.travel with state := .stopped, mark := 1196, stopTimer := none }
        level := { settling.level with condition := .frozen, settleMark := none } }
    let short : State := { settling with travel := { settling.travel with chainage := 1199, mark := 1199 } }
    let changed : State :=
      { settling with
        level :=
          { settling.level with
            resume := none, settleCapture := true, captured := false, causes := ⟨true, false, false⟩ } }
    (frozen.phase = .running ∧ frozen.straps.encoder = true ∧ frozen.levelling = true ∧ frozen.travel.steps = 3 ∧
      frozen.travel.page = some ⟨3333, 3⟩ ∧ 3333 ≤ frozen.travel.remainder + 100 ∧ frozen.travel.chainage < 2147483647 ∧
      frozen.travel.state = .stopped ∧ frozen.travel.mark + 5 ≤ frozen.travel.chainage + 1 ∧
      frozen.level.condition = .frozen) ∧
    (short.phase = .running ∧ short.travel.state = .paving ∧ short.travel.mark ≤ short.travel.chainage + 1 ∧
      short.level.condition = .settling ∧ short.level.settleMark = some 1141 ∧
      short.travel.chainage + 1 < 1141 + short.level.settleDistance) ∧
    (settling.phase = .running ∧ settling.straps.encoder = true ∧ settling.levelling = true ∧
      settling.travel.page = some ⟨3333, 3⟩ ∧ settling.travel.steps = 3 ∧ settling.travel.state = .paving ∧
      settling.travel.mark ≤ settling.travel.chainage + 1 ∧ settling.level.condition = .settling ∧
      settling.level.settleMark = some 1141 ∧ 1141 + settling.level.settleDistance ≤ settling.travel.chainage + 1 ∧
      isAuto settling.level.mode = true ∧ settling.level.page = some levelPage ∧
      settling.level.resume = some ⟨1140, 0, some 7, some (5, false), some (.raise, 30), 0⟩ ∧
      settling.level.settleCapture = false ∧ settling.level.causes = ⟨false, false, false⟩) ∧
    (changed.level.resume = none ∧ changed.level.settleCapture = true ∧ changed.level.grade = ⟨some (-80), false, some 2000⟩ ∧
      changed.level.causes ≠ ⟨false, false, false⟩) := by decide

theorem witness_FeedSensorsJudged :
    let s : State := { conveying with now := 3000 }
    (s.phase = .running ∧ s.readsFeedSensor .tunnel = true ∧ (s.feed.sensor .tunnel).timer = some 3000 ∧ 3000 ≤ s.now) ∧
    (bare.phase = .running ∧ bare.readsFeedSensor .tunnel = false) := by decide

theorem witness_ModeDriveJudged :
    let paged : State := { rig with settings := { rig.settings with feed := some ⟨feedPage, 0, false⟩ } }
    (bare.phase = .running ∧ bare.owner = false) ∧ (parked.owner = true ∧ DriveMode.manual ≠ .off ∧ parked.sup.station = .park) ∧
    (rig.owner = true ∧ rig.sup.station ≠ .park ∧ rig.sup.station ≠ .parkInquiry ∧ rig.settings.feed = none) ∧
    (paged.phase = .running ∧ paged.owner = true ∧ paged.sup.station ≠ .park ∧ paged.sup.station ≠ .parkInquiry ∧
      paged.settings.feed.isSome = true) := by decide

theorem witness_ControlPeriodMovesDrives :
    conveying.phase = .running ∧ conveying.feed.periodTimer = some 0 ∧ 0 ≤ conveying.now ∧
      some feedPage = (if conveying.feed.pending then (match conveying.settings.feed with
        | some held => some held.page
        | none => conveying.feed.page) else conveying.feed.page) ∧
      (some 45 = conveying.feed.tunnel.reading ∧ 60 = feedPage.conveyor.setpoint) ∧
      (conveying.feed.drive .conveyor).condition ≠ .stalled ∧ (conveying.feed.drive .conveyor).mode = .auto ∧
      ((450 : Nat) : Int) =
        max 0 (min 1000
          ((((feedPage.gains .conveyor).kff * (if conveying.travel.state = .paving then conveying.travel.speed.toNat else 0) / 10 : Nat) : Int) +
            (feedPage.gains .conveyor).kl * (((60 : Nat) : Int) - 45))) ∧
      (conveying.feed.drive .auger).mode = .off := by decide

theorem witness_DriveTimersAndPulses :
    let d : DriveRecord := ⟨.auto, .sensorHold, 200, 0, some 100000, some 100000, some 1, some 34465⟩
    let s : State := { later with feed := later.feed.setDrive .auger d }
    (s.phase = .running ∧ (s.feed.drive .auger).holdTimer = some 100000 ∧ (s.feed.drive .auger).stallTimer = some 100000 ∧
      100000 ≤ s.now) ∧
    ((s.feed.drive .auger).lastPulse = some 34465 ∧ (s.feed.drive .auger).period.isSome = true ∧ 34465 + 65535 ≤ s.now ∧
      s.owner = true) ∧
    (bare.phase = .running ∧ bare.owner = false) := by decide

theorem witness_WidthFollowsExtensionSensor :
    let s := State.poweredOn 16 ⟨0, false⟩ 0
    (s.phase = .running ∧ s.straps.kind = .extension ∧ (0 : Int) ≤ 300 ∧ (300 : Int) ≤ 300) ∧
    (∀ v : Int, Reading.value 301 = .value v → v < 0 ∨ 300 < v) ∧
    (s.identity.width = none ∧ rig.straps.kind ≠ .extension) ∧
    (unpowered.phase = .powerOn 0 ∧ 0 + 500 ≤ unpowered.now) := by
  refine ⟨by decide, ?_, by decide, by decide⟩
  intro v h
  injection h with h
  omega

theorem witness_SweepsFillOpenRow :
    let off : State := { rig with rows := { rig.rows with scannerOn := false } }
    let s : State := { rig with now := 5000 }
    (recording.phase = .running ∧ recording.straps.scanner = true ∧ recording.rows.scannerOn = true ∧
      recording.rows.openRow = some (emptyRow 1176 1201) ∧ recording.travel.state = .paving ∧ recording.rows.highWater = none) ∧
    (rig.phase = .running ∧ rig.straps.scanner = true ∧ rig.rows.scannerOn = true ∧ rig.rows.openRow = none) ∧
    (off.phase = .running ∧ off.rows.scannerOn = false) ∧
    (s.phase = .running ∧ s.rows.silence = .running 5000 ∧ 5000 ≤ s.now) := by decide

theorem witness_StepCloseCommitsRow :
    let backing : State := { recording with travel := { recording.travel with state := .reversing, mark := 1197 } }
    let full : State := { recording with ring := { recording.ring with rows := .replicate 512 ⟨0, aRow⟩ } }
    let cold : OpenRow := { emptyRow 1176 1201 with cells := .replicate 16 ⟨119, 1, some 119⟩ }
    let marking : RecordPage := { recordPage with windows := recordPage.windows.set 1 ⟨true, 3, 1200, 1⟩ }
    (recording.phase = .running ∧ recording.straps.encoder = true ∧ recording.travel.page = some ⟨3333, 3⟩ ∧
      recording.travel.steps = 3 ∧ 3333 ≤ recording.travel.remainder + 100 ∧ recording.travel.chainage < 2147483647 ∧
      (recording.travel.ruled 1201 0 true).1 = recording.travel.state ∧ recording.straps.scanner = true ∧
      recording.rows.page = some recordPage ∧ recording.rows.pending = false ∧ 0 < recordPage.rowStep ∧
      recording.rows.openRow = some (emptyRow 1176 1201) ∧ (emptyRow 1176 1201).finish = recording.travel.chainage + 1 ∧
      (emptyRow 1176 1201).epoch = recording.travel.epoch ∧ recording.travel.state = .paving ∧ recording.sup.station = .run) ∧
    (backing.travel.ruled 1201 0 true).1 = backing.travel.state ∧ backing.travel.state ≠ .paving ∧
    (512 ≤ full.ring.rows.length ∧ full.ring.mode = .wrap) ∧
    ((recording.formRow cold recordPage .step 25).ColdEdge 120 ∧
      ¬(recording.formRow (emptyRow 1176 1201) recordPage .step 25).ColdEdge 120) ∧
    (MarkWindow.Overlaps (marking.windows.get 1) 1176 25 ∧ ¬MarkWindow.Overlaps (marking.windows.get 1) 1176 24 ∧
      ∀ j < (1 : Fin 4), ¬MarkWindow.Overlaps (marking.windows.get j) 1176 25) ∧
    (cold.Present 125 125 ⟨119, 1, some 119⟩) := by
  refine ⟨by decide, by decide, by decide, ⟨le_of_eq List.length_replicate.symm, rfl⟩, ?_, ?_, ?_⟩
  · refine ⟨⟨14, 119, 119, by decide, by decide, by decide, by decide, by decide⟩, ?_⟩
    rintro ⟨j, _, _, count, present, _⟩
    have count : 16 = j + 2 := count
    obtain rfl : j = 14 := by omega
    exact nomatch present
  · unfold MarkWindow.Overlaps
    decide
  · unfold OpenRow.Present
    decide

theorem stored_ring_sound : stored.ring.Sound := by
  refine ⟨by decide, fun i h found => ?_, by decide, by decide⟩
  match i, found with
  | 0, found =>
    cases found
    decide
  | 1, found =>
    cases found
    decide

theorem witness_CollectAndReleaseServeRing :
    let busy : State := { stored with ring := { stored.ring with collection := { stored.ring.collection with inFlight := true } } }
    (stored.phase = .running ∧ stored.ring.Sound ∧ stored.ring.collection.inFlight = false ∧ 2 = max 1 (min 16 2) ∧
      stored.ring.rows[1]? = some ⟨1, aRow⟩ ∧ (1 : Word32) = (⟨1, aRow⟩ : HeldRow).seq) ∧
    (((4294967295 : Word32) - (0 : Word32)).toInt < 0 ∧
      0 ≤ ((4294967295 : Word32) + BitVec.ofNat 32 (2 - 1) - (0 : Word32)).toInt ∧ stored.ring.rows[0]? = some ⟨0, aRow⟩) ∧
    (rig.phase = .running ∧ rig.ring.rows = [] ∧ (stored.ring.rows.length : Int) ≤ ((2 : Word32) - stored.ring.oldest).toInt ∧
      ((4294967294 : Word32) + BitVec.ofNat 32 (2 - 1) - stored.ring.oldest).toInt < 0) ∧
    (busy.phase = .running ∧ busy.ring.collection.inFlight = true ∧ busy.ring.collection.answerOutstanding = false ∧
      ∀ outcome, busy.ring.collection.final ≠ .owed outcome) ∧
    (2 = (if stored.ring.rows = [] ∨ ((1 : Word32) - stored.ring.oldest).toInt < 0 then 0
      else min (((1 : Word32) - stored.ring.oldest).toNat + 1) stored.ring.rows.length)) := by
  refine ⟨⟨rfl, stored_ring_sound, rfl, rfl, rfl, rfl⟩, by decide, by decide, ⟨rfl, rfl, rfl, fun o h => nomatch h⟩, by decide⟩

/-- The rig with the RECORD of sequence 0 in flight, of a collection of its two rows. -/
def collecting : State :=
  { sending .record (.record ⟨9, ⟨0, aRow⟩⟩) none with
    ring :=
      { stored.ring with
        collection :=
          { stored.ring.collection with
            inFlight := true, requester := some 9, firstAsked := some 0, range := .span 0 1, next := some 1
            firstSent := some 0, outstanding := true } } }

/-- The clause of the RECORD sent: one more row to offer, none left, and a next sequence that the ring no longer holds. -/
theorem witness_CollectAndReleaseServeRing_sent :
    (collecting.phase = .running ∧ collecting.ring.Sound ∧ collecting.line.queue.OnlyFlying .record) ∧
    (collecting.line.queue.get .record = .inFlight (.record ⟨9, ⟨0, aRow⟩⟩) 0 none ∧
      collecting.ring.collection.outstanding = true ∧ collecting.ring.collection.requester = some 9 ∧
      collecting.ring.collection.firstAsked = some 0 ∧ collecting.ring.collection.range = .span 0 1 ∧
      collecting.ring.collection.next = some 1) ∧
    (¬((1 : Word32) - collecting.ring.oldest).toInt < 0 ∧ collecting.ring.rows[1]? = some ⟨1, aRow⟩ ∧
      ((1 : Word32) - collecting.ring.oldest).toInt ≤ ((1 : Word32) - collecting.ring.oldest).toInt) ∧
    (((1 : Word32) - collecting.ring.oldest).toInt < ((2 : Word32) - collecting.ring.oldest).toInt ∧
      collecting.ring.collection.answerOutstanding = false) ∧
    ((4294967295 : Word32) - collecting.ring.oldest).toInt < 0 :=
  ⟨⟨rfl, stored_ring_sound, sending_only _ _ _⟩, by decide, by decide, by decide, by decide⟩

theorem witness_SettingsAreHeldHandedAndAged :
    let held : State := { later with settings := { later.settings with heat := some ⟨heatPage, 0, false⟩ } }
    (rig.phase = .running ∧ SettingsFields.changed (.travel ⟨99, 3⟩) = true ∧ rig.heat.supply ≠ .running ∧
      heating.heat.supply = .running ∧ rig.rows.openRow = none ∧ recording.rows.openRow.isSome = true ∧ rig.travel.page = none) ∧
    (held.phase = .running ∧ held.settings.heat = some ⟨heatPage, 0, false⟩ ∧ held.settings.level = none) := by decide

theorem witness_ParkJudgedAndEntered :
    let counted : State :=
      { recording with rows := { recording.rows with openRow := some { emptyRow 1176 1201 with sweeps := 1 } } }
    (steering.phase = .running ∧ isAuto steering.level.mode = true) ∧
    (isAuto conveying.level.mode = false ∧ conveying.feed.conveyor.mode ≠ .off) ∧
    (parked.phase = .running ∧ isAuto parked.level.mode = false ∧ parked.feed.conveyor.mode = .off ∧ parked.feed.auger.mode = .off ∧
      parked.sup.station = .park) ∧
    (counted.phase = .running ∧ isAuto counted.level.mode = false ∧ counted.feed.conveyor.mode = .off ∧
      counted.feed.auger.mode = .off ∧ counted.sup.station = .run ∧
      counted.rows.openRow = some { emptyRow 1176 1201 with sweeps := 1 } ∧ counted.rows.page = some recordPage ∧
      (emptyRow 1176 1201).start < counted.rows.lastChainage ∧ counted.ring.rows.length < 512) ∧
    (recording.rows.openRow = some (emptyRow 1176 1201) ∧ (emptyRow 1176 1201).sweeps = 0) := by decide

theorem witness_WakeAndWaking :
    let inquiry : State :=
      { parked with
        sup := { parked.sup with station := .parkInquiry, wakeOwed := true }
        ring := { parked.ring with collection := { parked.ring.collection with inFlight := true, final := .offered, answerOutstanding := true } } }
    let waking : State := { later with sup := { later.sup with station := .waking, wakingTimer := some 100000 } }
    let c : CollectEndContent := ⟨9, .done, 0, none, 0, 0, 0, none, 0, 0, 0, 0⟩
    let ending : State := { inquiry with line := (sending .collectEnd (.collectEnd c) none).line }
    (parked.phase = .running ∧ parked.sup.station = .park) ∧ (inquiry.phase = .running ∧ inquiry.sup.station = .parkInquiry) ∧
    (rig.phase = .running ∧ rig.sup.station = .run ∧ waking.sup.station = .waking) ∧
    (waking.phase = .running ∧ waking.sup.wakingTimer = some 100000 ∧ 100000 ≤ waking.now ∧ waking.rows.openRow = none) ∧
    (ending.phase = .running ∧ ending.line.queue.get .collectEnd = .inFlight (.collectEnd c) 0 none ∧
      ending.line.queue.OnlyFlying .collectEnd ∧ c.outcome ≠ .busy ∧ ending.sup.station = .parkInquiry ∧
      ending.ring.collection.inFlight = true) :=
  ⟨⟨rfl, rfl⟩, ⟨rfl, rfl⟩, ⟨rfl, rfl, rfl⟩, ⟨rfl, rfl, by decide, rfl⟩, rfl, rfl, sending_only _ _ _, by decide, rfl, rfl⟩

theorem witness_WarmRestartAssertsAndReleases :
    (heating.phase = .running) ∧
    (let s : State := { rig with now := 100, phase := .warm (some 100) true .restartPin }
     s.phase = .warm (some 100) true .restartPin ∧ 100 ≤ s.now ∧ s.phase ≠ .running) ∧
    (({ rig with now := 100, phase := .warm (some 100) false .restartCommand } : State).phase = .warm (some 100) false .restartCommand) ∧
    (({ rig with phase := .warm none true .restartPin } : State).phase = .warm none true .restartPin) ∧
    (Instr.wake ≠ .restartTimerExpiry ∧ Instr.wake ≠ .restartPinActive ∧ Instr.wake ≠ .restartPinInactive ∧
      Instr.wake ≠ .powerOnResetAssert ∧ ∀ straps, Instr.wake ≠ .powerOnResetRelease straps) := by
  refine ⟨rfl, by decide, rfl, rfl, by decide, by decide, by decide, by decide, fun p h => nomatch h⟩

theorem witness_PowerOnResetTakesAll :
    let s : State := { rig with now := 499, phase := .powerOn 0 }
    (s.phase = .powerOn 0 ∧ s.now < 0 + 500 ∧ 0 + 500 ≤ ({ s with now := 500 } : State).now) ∧
      ∀ since, rig.phase ≠ .powerOn since :=
  ⟨by decide, fun since h => nomatch h⟩

/-! ### The invariants, at a station that is doing what they are about -/

theorem witness_StepKeepsLineSound :
    let s := sending .travel (.travel (travelAt 0)) none
    s.LineSound ∧ ∃ t, step s = .next t := by
  refine ⟨⟨by decide, by decide, by decide, fun h => (nomatch h), fun k h => ?_, by decide, fun _ _ _ h => nomatch h⟩, _, rfl⟩
  cases k <;> first | exact sending_only _ _ _ | cases h

theorem witness_StepKeepsTravelSound : paving.TravelSound ∧ ∃ t, step paving = .next t := by
  refine ⟨⟨by decide, fun h => (nomatch h), fun p h => ?_, by decide, by decide, by decide, by decide⟩, _, rfl⟩
  cases h
  decide

theorem witness_StepKeepsHeatAndLoadSound : heating.HeatSound ∧ heating.LoadSound ∧ ∃ t, step heating = .next t := by
  refine ⟨⟨?_, by decide, by decide, fun h => (nomatch h)⟩, by unfold State.LoadSound; decide, _, rfl⟩
  unfold State.ZoneSound
  decide

theorem witness_StepKeepsLevelSound : settling.LevelSound ∧ ∃ t, step settling = .next t :=
  ⟨by unfold State.LevelSound; decide, _, rfl⟩

theorem witness_StepKeepsFeedSound : conveying.FeedSound ∧ ∃ t, step conveying = .next t :=
  ⟨by unfold State.FeedSound DriveRecord.Sound; decide, _, rfl⟩

theorem witness_StepKeepsRingAccount : stored.ring.Sound ∧ ∃ t, step stored = .next t := ⟨stored_ring_sound, _, rfl⟩

theorem witness_StepKeepsStationSound :
    recording.StationSound ∧ parked.StationSound ∧ ∃ t, step parked = .next t :=
  ⟨by unfold State.StationSound; decide, by unfold State.StationSound; decide, _, rfl⟩

theorem witness_StepKeepsPagesInRange : conveying.PagesSound ∧ conveying.ReportSound ∧ ∃ t, step conveying = .next t := by
  refine ⟨⟨?_, ?_, ?_, ?_, ?_, ?_, ?_, ?_, ?_, ?_⟩, rfl, _, rfl⟩ <;> intro p h <;> cases h
  · unfold FeedPage.InRange FeedGains.InRange
    decide
  · unfold TravelPage.InRange
    decide

end Sys2Proof.Tests
end

section
/-! PROOFS. What BULLETIN_BEGIN chooses from the transmit queue (R13, R14), and what Station Identity supplies as the current width
(R3), with the two obligations that say so. -/

namespace Sys2Proof.Machine

/-! ## The kind that BULLETIN_BEGIN chooses -/

theorem StationKind.mem_list (k : StationKind) : k ∈ StationKind.list := by
  cases k <;> decide

theorem servedBefore_iff (a b : StationKind × Nat) :
    servedBefore a b = true ↔ a.1.cls < b.1.cls ∨ (a.1.cls = b.1.cls ∧ a.2 < b.2) := by
  simp [servedBefore]

theorem TxQueue.waitsAt_eq_some_iff (q : TxQueue) (k : StationKind) (p : Nat) :
    q.waitsAt k = some p ↔ ∃ c, q.get k = .waiting c p := by
  unfold TxQueue.waitsAt
  cases q.get k <;> simp

theorem TxQueue.mem_waiting_iff (q : TxQueue) (k : StationKind) (p : Nat) :
    (k, p) ∈ q.waiting ↔ ∃ c, q.get k = .waiting c p := by
  simp [TxQueue.waiting, StationKind.mem_list, ← TxQueue.waitsAt_eq_some_iff]

/-- The waiting slot that R13's order puts before every other one is the choice. -/
theorem TxQueue.choice_eq_some {q : TxQueue} {k : StationKind} {c : Content} {p : Nat} (waits : q.get k = .waiting c p)
    (first : ∀ (k' : StationKind) (c' : Content) (p' : Nat), k' ≠ k → q.get k' = .waiting c' p' →
      k.cls < k'.cls ∨ (k.cls = k'.cls ∧ p < p')) :
    q.choice = some k := by
  have listed : (k, p) ∈ q.waiting := (q.mem_waiting_iff k p).2 ⟨c, waits⟩
  have served : firstServed q.waiting = some (k, p) := by
    refine firstServed_eq listed fun ⟨k', p'⟩ listed' other => (servedBefore_iff _ _).2 ?_
    obtain ⟨c', waits'⟩ := (q.mem_waiting_iff k' p').1 listed'
    refine first k' c' p' (fun same => other ?_) waits'
    subst same
    cases waits.symm.trans waits'
    rfl
  simp [TxQueue.choice, served]

theorem TxQueue.choice_eq_none {q : TxQueue} (h : ∀ k, q.waitsAt k = none) : q.choice = none := by
  have nothing : q.waiting = [] := by simp [TxQueue.waiting, h]
  simp [TxQueue.choice, nothing, firstServed]

theorem TxQueue.flying_ne_none {q : TxQueue} {k : StationKind} (h : (q.get k).isInFlight = true) : q.flying ≠ none := by
  intro absent
  have landed := List.find?_eq_none.1 absent k k.mem_list
  exact landed h

/-! ## What beginning a bulletin does -/

/-- In SPEAKING with nothing in flight, the chosen slot goes in flight and its frame is driven on the line (R6, R13). -/
theorem State.beginBulletin_of_choice {s : State} {k : StationKind} {c : Content} {p : Nat}
    (speaking : s.line.state = .speaking) (free : s.line.queue.flying = none) (choice : s.line.queue.choice = some k)
    (waits : s.line.queue.get k = .waiting c p) :
    s.beginBulletin = s.setSending (s.line.queue.set k (.inFlight c p none)) (some (frame s.straps.station c)) := by
  simp [State.beginBulletin, speaking, free, choice, waits]

/-- In QUIET, with a slot in flight, or with no choice, nothing begins (R13, R14). -/
theorem State.beginBulletin_of_held {s : State}
    (held : s.line.state = .quiet ∨ s.line.queue.flying ≠ none ∨ s.line.queue.choice = none) : s.beginBulletin = s := by
  unfold State.beginBulletin
  split
  case h_1 speaking free choice =>
    simp [speaking, free, choice] at held
  case h_2 => rfl

/-- Settles O4: the choice along `firstServed` is the slot that is before every other one, and neither a begun bulletin nor a held one
changes what STATUS carries. -/
theorem beginTakesLowestClassAndOldest : Obligations.BeginTakesLowestClassAndOldest := by
  unfold Obligations.BeginTakesLowestClassAndOldest
  constructor
  · intro s k c p ready speaking free waits first
    have begun := State.beginBulletin_of_choice speaking (TxQueue.flying_eq_none free)
      (TxQueue.choice_eq_some waits first) waits
    exact congrArg Host.Outcome.next (State.take_of_unchanged ready begun ready.2 (State.statusStates_of_line rfl))
  · intro s ready held
    have kept : s.beginBulletin = s := by
      refine State.beginBulletin_of_held ?_
      rcases held with quiet | ⟨k, flies⟩ | empty
      · exact .inl quiet
      · exact .inr (.inl (TxQueue.flying_ne_none flies))
      · exact .inr (.inr (TxQueue.choice_eq_none empty))
    exact congrArg Host.Outcome.next (State.take_of_unchanged ready kept ready.2 rfl)

/-! ## The current width -/

/-- The width rests on Station Identity's record alone. -/
theorem State.width_congr {s t : State} (h : t.identity = s.identity) : t.width = s.width := by
  unfold State.width State.straps
  rw [h]

theorem State.width_of_not_extension {s : State} (h : s.straps.kind ≠ .extension) : s.width = s.straps.maxWidth := by
  simp [State.width, h]

theorem State.width_of_no_reading {s : State} (h : s.identity.width = none) : s.width = s.straps.maxWidth := by
  simp [State.width, h]

theorem State.width_of_reading {s : State} {w : Nat} (extension : s.straps.kind = .extension)
    (h : s.identity.width = some w) : s.width = w := by
  simp [State.width, extension, h]

/-! ## A width reading -/

theorem widthReading_eq_some_iff (r : Reading) (v : Int) : widthReading r = some v ↔ r = .value v ∧ 0 ≤ v ∧ v ≤ 300 :=
  readingWithin_eq_some_iff 0 300 r v

/-- An EXTENSION section keeps a valid reading, clamped to Wmax. -/
theorem State.takeWidth_of_valid {s : State} {v : Int} (extension : s.straps.kind = .extension) (low : 0 ≤ v)
    (high : v ≤ 300) :
    s.takeWidth (.value v) =
      { s with identity := { s.identity with width := some (min s.straps.maxWidth v.toNat) } } := by
  have read : widthReading (.value v) = some v := (widthReading_eq_some_iff _ v).2 ⟨rfl, low, high⟩
  have clamped : (clampInt 0 (s.straps.maxWidth : Int) v).toNat = min s.straps.maxWidth v.toNat := by
    rw [clampInt_eq (Int.natCast_nonneg _)]
    omega
  simp [State.takeWidth, extension, read, clamped]

/-- A reading that an EXTENSION section finds open or out of range, and any reading of another section, is not taken. -/
theorem State.takeWidth_of_unread {s : State} {r : Reading}
    (unread : s.straps.kind = .extension → ∀ v, r = .value v → v < 0 ∨ 300 < v) : s.takeWidth r = s := by
  unfold State.takeWidth
  split_ifs with extension
  · split
    case h_1 w read =>
      obtain ⟨value, low, high⟩ := (widthReading_eq_some_iff r w).1 read
      have outside := unread (by simpa using extension) w value
      omega
    case h_2 => rfl
  · rfl

/-! ## Station Identity at the resets -/

theorem State.HeatFrame.identity {s t : State} (h : State.HeatFrame s t) : t.identity = s.identity := by
  rw [h]

theorem State.firstReport_identity (s : State) : s.firstReport.identity = s.identity := by
  have judged := s.forZones_frame (fun t z => t.judgeZone z) fun t z => t.judgeZone_frame z
  rw [State.firstReport, State.offerStatus_identity, judged.identity]

@[simp] theorem State.assertWarm_identity (s : State) (timer : Option Nat) (pinHeld : Bool) (cause : ResetCause) :
    (s.assertWarm timer pinHeld cause).identity = ⟨s.straps, none⟩ := rfl

theorem State.restartPinOn_of_running {s : State} (h : s.phase = .running) :
    s.restartPinOn = s.assertWarm none true .restartPin := by
  simp [State.restartPinOn, h]

/-- A running part asserts a warm restart with no width reading and its straps kept, at a RESTART as at the pin (R178). -/
theorem exec_warmRestart_identity {s : State} {c : Instr} (running : s.phase = .running)
    (cause : c = .restart ∨ c = .restartPinActive) : ∃ t, exec c s = .next t ∧ t.identity = ⟨s.straps, none⟩ := by
  rcases cause with rfl | rfl
  · have same := State.take_sameButStatus running State.takeRestart
    exact ⟨s.take State.takeRestart, rfl, same.identity.trans (State.assertWarm_identity s _ _ _)⟩
  · refine ⟨s.restartPinOn, rfl, ?_⟩
    rw [State.restartPinOn_of_running running, State.assertWarm_identity]

/-- A power-on release samples the straps and holds no width reading (R1, R179). -/
theorem State.releasePowerOn_identity {s : State} {since : Nat} (straps : BitVec 18) (phase : s.phase = .powerOn since)
    (elapsed : since + 500 ≤ s.now) : (s.releasePowerOn straps).identity = ⟨sampleStraps straps, none⟩ := by
  have time : since + Config.powerOnTime ≤ s.now := elapsed
  simp only [State.releasePowerOn, phase, if_pos time]
  exact State.firstReport_identity _

/-- Settles O43: a reading either sets Station Identity's width or leaves it, both resets clear it, and nothing else that these events
do reaches it. -/
theorem widthFollowsExtensionSensor : Obligations.WidthFollowsExtensionSensor := by
  unfold Obligations.WidthFollowsExtensionSensor
  refine ⟨?reading, ?absent, ?warm, ?powerOn, ?row⟩
  case reading =>
    intro s r running
    refine State.take_reaches running (fun t => t.takeWidth r) fun t same => ⟨?_, ?_, ?_⟩
    · cases r with
      | openCircuit =>
        have kept : s.takeWidth .openCircuit = s := State.takeWidth_of_unread fun _ _ h => nomatch h
        simpa only [kept] using same
      | value v =>
        by_cases valid : s.straps.kind = .extension ∧ 0 ≤ v ∧ v ≤ 300
        · obtain ⟨extension, low, high⟩ := valid
          simpa only [State.takeWidth_of_valid extension low high, extension, low, high, and_self, if_true] using same
        · have kept : s.takeWidth (.value v) = s := by
            refine State.takeWidth_of_unread fun extension w h => ?_
            cases h
            by_contra inside
            exact valid ⟨extension, by omega, by omega⟩
          simpa only [kept, if_neg valid] using same
    · rintro v rfl extension low high
      have taken := State.takeWidth_of_valid extension low high
      rw [State.width_congr same.identity, taken]
      exact State.width_of_reading extension rfl
    · intro outside
      have kept : s.takeWidth r = s := State.takeWidth_of_unread fun _ => outside
      rw [State.width_congr same.identity, kept]
  case absent =>
    rintro s (unset | other)
    · exact State.width_of_no_reading unset
    · exact State.width_of_not_extension other
  case warm =>
    intro s c running cause
    obtain ⟨t, taken, identity⟩ := exec_warmRestart_identity running cause
    have straps : t.straps = s.straps := by rw [State.straps, identity]
    refine ⟨t, taken, straps, ?_⟩
    rw [State.width_of_no_reading (congrArg Identity.width identity), straps]
  case powerOn =>
    intro s since straps phase elapsed
    have identity := State.releasePowerOn_identity straps phase elapsed
    refine ⟨_, rfl, ?_⟩
    rw [State.width_of_no_reading (congrArg Identity.width identity)]
    exact congrArg (fun i => i.straps.maxWidth) identity
  case row =>
    intro s r page cause length
    rfl

end Sys2Proof.Machine
end

section
/-! PROOFS. The generator's share under a sagging supply (R64, R70, R71) and the shed handshake's orders (R74, R77), with the two
obligations that say so. -/

namespace Sys2Proof.Machine

/-! ## What the heating state and the window rest on -/

theorem State.windowRuns_iff (s : State) : s.windowRuns = true ↔ s.heat.supply = .running := by
  simp [State.windowRuns]

theorem State.windowRuns_eq_false_iff (s : State) : s.windowRuns = false ↔ s.heat.supply ≠ .running := by
  simp [State.windowRuns]

/-- The heating state rests on the supply, the shed status, the heating mode, the applied page and the park option alone (R40). -/
theorem State.heating_congr {s t : State} (supply : t.heat.supply = s.heat.supply) (mode : t.heat.mode = s.heat.mode)
    (page : t.heat.page = s.heat.page) (status : t.load.status = s.load.status) (option : t.sup.option = s.sup.option) :
    t.heating = s.heating := by
  unfold State.heating
  rw [supply, mode, page, status, option]

/-! ## Zones are judged apart from the share -/

/-- What each zone's operation leaves as it is, the operation on all four zones leaves as it is. -/
theorem State.forZones_keeps {α : Type} (field : State → α) (s : State) (f : State → Fin 4 → State)
    (keeps : ∀ t z, field (f t z) = field t) : field (s.forZones f) = field s :=
  calc
    field (s.forZones f) = field (f (f (f s 0) 1) 2) := keeps _ 3
    _ = field (f (f s 0) 1) := keeps _ 2
    _ = field (f s 0) := keeps _ 1
    _ = field s := keeps s 0

theorem State.judgeZone_load (s : State) (z : Fin 4) : (s.judgeZone z).load = s.load := by
  unfold State.judgeZone
  split_ifs
  · split <;> rfl
  · rfl

theorem State.judgeOpen_load (s : State) (z : Fin 4) : (s.judgeOpen z).load = s.load := by
  unfold State.judgeOpen
  dsimp only
  split_ifs <;> rfl

theorem State.judgeOpen_page (s : State) (z : Fin 4) : (s.judgeOpen z).heat.page = s.heat.page := by
  unfold State.judgeOpen
  dsimp only
  split_ifs <;> rfl

theorem State.firstReport_load (s : State) : s.firstReport.load = s.load := by
  rw [State.firstReport, State.offerStatus_load]
  exact s.forZones_keeps State.load _ fun t z => t.judgeZone_load z

/-! ## The sag judged -/

theorem State.judgeSag_of_no_page {s : State} (rms : Nat) (absent : s.heat.page = none) : s.judgeSag rms = s := by
  simp [State.judgeSag, absent]

/-- A sagging window lowers the shed factor and a sound one raises it (R70, R71). -/
theorem State.judgeSag_factor_of_page {s : State} {page : HeatPage} (rms : Nat) (applied : s.heat.page = some page) :
    (s.judgeSag rms).load.factor =
      if rms < page.sagPercent * page.nominalVoltage / 100 then max 32 (s.load.factor - max 1 (s.load.factor / 8))
      else min 256 (s.load.factor + 8) := by
  unfold State.judgeSag
  rw [applied]
  rfl

/-- A factor from 32 to 256 stays there (R71). -/
theorem State.judgeSag_factor_bounds {s : State} (rms : Nat) (low : 32 ≤ s.load.factor) (high : s.load.factor ≤ 256) :
    32 ≤ (s.judgeSag rms).load.factor ∧ (s.judgeSag rms).load.factor ≤ 256 := by
  cases applied : s.heat.page with
  | none =>
    rw [State.judgeSag_of_no_page rms applied]
    exact ⟨low, high⟩
  | some page =>
    rw [State.judgeSag_factor_of_page rms applied]
    split_ifs <;> omega

/-- A state that agrees in the page and the share record is judged to the same factor. -/
theorem State.judgeSag_factor_congr {s t : State} (rms : Nat) (page : t.heat.page = s.heat.page) (load : t.load = s.load) :
    (t.judgeSag rms).load.factor = (s.judgeSag rms).load.factor := by
  cases applied : s.heat.page with
  | none => rw [State.judgeSag_of_no_page rms applied, State.judgeSag_of_no_page rms (page.trans applied), load]
  | some p => rw [State.judgeSag_factor_of_page rms applied, State.judgeSag_factor_of_page rms (page.trans applied), load]

/-- The slot's currents and the open counts do not enter into the sag's judgement (R48, step 1). -/
theorem State.judgeWindow_factor (s : State) (rms : Nat) (peak : Quad Nat) :
    ((s.senseSlot peak).judgeWindow rms).load.factor = (s.judgeSag rms).load.factor :=
  State.judgeSag_factor_congr rms
    (State.forZones_keeps (fun t => t.heat.page) (s.senseSlot peak) _ fun t z => t.judgeOpen_page z)
    (State.forZones_keeps State.load (s.senseSlot peak) _ fun t z => t.judgeOpen_load z)

/-! ## The share of a window that begins -/

theorem State.applyHeatPage_load (s : State) : s.applyHeatPage.load = s.load := by
  unfold State.applyHeatPage
  split_ifs
  · split <;> rfl
  · rfl

theorem State.settleShed_factor (s : State) : s.settleShed.load.factor = s.load.factor := by
  unfold State.settleShed
  dsimp only
  split
  · split_ifs <;> rfl
  all_goals rfl

theorem State.takeShare_heat (s : State) : s.takeShare.heat = s.heat := by
  unfold State.takeShare
  dsimp only
  split_ifs <;> rfl

theorem State.takeShare_load (s : State) :
    s.takeShare.load =
      { s.load with
        ownDemand := s.takeShare.load.ownDemand, total := s.takeShare.load.total
        share := s.takeShare.load.share, table := s.takeShare.load.table } := by
  unfold State.takeShare
  dsimp only
  split_ifs <;> rfl

/-- The share is of the own demand and the total that the same step forms, under the shed factor it finds (R64). -/
theorem State.takeShare_share {s : State} {page : HeatPage} (applied : s.heat.page = some page)
    (draws : s.heating.draws = true) :
    s.takeShare.load.share =
      shareOf page.capacity s.takeShare.load.ownDemand s.takeShare.load.total s.load.factor := by
  unfold State.takeShare
  simp only [applied, draws, if_true]
  split_ifs <;> rfl

theorem State.rotate_keeps (s : State) :
    s.rotate = { s with heat := { s.heat with rotationStart := s.rotate.heat.rotationStart } } := by
  unfold State.rotate
  split_ifs <;> rfl

/-- The state in which a window's beginning takes the share: after steps 2 to 5 (R48). -/
def State.demanded (s : State) : State := s.applyHeatPage.settleShed.demandZones

theorem State.demanded_factor (s : State) : s.demanded.load.factor = s.load.factor :=
  (State.settleShed_factor _).trans (congrArg Load.factor s.applyHeatPage_load)

/-- Steps 7 and 8 leave the share record as step 6 made it. -/
theorem State.beginWindow_load (s : State) : s.beginWindow.load = s.demanded.takeShare.load := by
  rw [State.beginWindow, State.rotate_keeps]
  rfl

theorem State.beginWindow_page (s : State) : s.beginWindow.heat.page = s.demanded.heat.page := by
  rw [State.beginWindow, State.rotate_keeps]
  show s.demanded.takeShare.heat.page = s.demanded.heat.page
  rw [State.takeShare_heat]

/-- The heating state that step 6 reads is still the one the window begins with. -/
theorem State.beginWindow_heating (s : State) : s.beginWindow.heating = s.demanded.heating := by
  have shared : s.demanded.takeShare.heating = s.demanded.heating := by
    have heat := s.demanded.takeShare_heat
    have frame := s.demanded.takeShare_frame
    refine State.heating_congr (congrArg Heat.supply heat) (congrArg Heat.mode heat) (congrArg Heat.page heat) ?_ ?_
    · rw [State.takeShare_load]
    · rw [frame]
  rw [← shared, State.beginWindow, State.rotate_keeps]
  rfl

theorem State.beginWindow_factor (s : State) : s.beginWindow.load.factor = s.load.factor := by
  rw [State.beginWindow_load, State.takeShare_load]
  exact s.demanded_factor

theorem State.beginWindow_share {s : State} {page : HeatPage} (applied : s.beginWindow.heat.page = some page)
    (draws : s.beginWindow.heating.draws = true) :
    s.beginWindow.load.share =
      shareOf page.capacity s.beginWindow.load.ownDemand s.beginWindow.load.total s.beginWindow.load.factor := by
  rw [State.beginWindow_page] at applied
  rw [State.beginWindow_heating] at draws
  rw [State.beginWindow_factor, State.beginWindow_load, State.takeShare_share applied draws, State.demanded_factor]

/-! ## What leaves the shed factor -/

/-! The restart of the supply timer touches the heater's times alone (R43). -/

@[simp] theorem State.timeCrossing_load (s : State) : s.timeCrossing.load = s.load := rfl
@[simp] theorem State.timeCrossing_page (s : State) : s.timeCrossing.heat.page = s.heat.page := rfl
@[simp] theorem State.timeCrossing_heating (s : State) : s.timeCrossing.heating = s.heating := rfl

/-- A crossing while no window runs, which may start one, leaves the shed factor. -/
theorem State.takeCrossing_factor_of_waiting {s : State} {rms : Nat} {peak : Quad Nat} (waits : s.heat.supply ≠ .running) :
    (s.takeCrossing rms peak).load.factor = s.load.factor := by
  unfold State.takeCrossing
  rw [(s.windowRuns_eq_false_iff).2 waits]
  show s.crossWaiting.load.factor = s.load.factor
  unfold State.crossWaiting
  split_ifs
  · exact State.beginWindow_factor _
  · rfl

theorem State.loadNoSupply_factor (s : State) : s.loadNoSupply.load.factor = s.load.factor := by
  unfold State.loadNoSupply
  dsimp only
  split <;> rfl

theorem State.loseSupply_factor (s : State) : s.loseSupply.load.factor = s.load.factor := by
  have off : (if s.windowRuns then s.mapZones fun _ r => r.loseSupply else s).load = s.load := by
    split_ifs <;> rfl
  rw [State.loseSupply, State.loadNoSupply_factor, State.applyHeatPage_load]
  exact congrArg Load.factor off

theorem State.supplyExpired_factor (s : State) : s.supplyExpired.load.factor = s.load.factor := by
  unfold State.supplyExpired
  split_ifs
  · rfl
  · exact s.loseSupply_factor

/-! ## The share record at the resets -/

/-- A running part asserts a warm restart with the share record at its reset values, at a RESTART as at the pin (R178). -/
theorem exec_warmRestart_load {s : State} {c : Instr} (running : s.phase = .running)
    (cause : c = .restart ∨ c = .restartPinActive) : ∃ t, exec c s = .next t ∧ t.load = .atReset := by
  rcases cause with rfl | rfl
  · have same := State.take_sameButStatus running State.takeRestart
    exact ⟨s.take State.takeRestart, rfl, same.load⟩
  · refine ⟨s.restartPinOn, rfl, ?_⟩
    rw [State.restartPinOn_of_running running]
    rfl

/-- A power-on release leaves the share record at its reset values with the idle demand timer started (R179). -/
theorem State.releasePowerOn_load {s : State} {since : Nat} (straps : BitVec 18) (phase : s.phase = .powerOn since)
    (elapsed : since + 500 ≤ s.now) : (s.releasePowerOn straps).load = Load.atReset.started s.now := by
  have time : since + Config.powerOnTime ≤ s.now := elapsed
  simp only [State.releasePowerOn, phase, if_pos time]
  exact State.firstReport_load _

/-! ## The sag at a boundary -/

theorem State.alarm_sagShed_iff (s : State) : s.alarm .sagShed = true ↔ s.load.factor < 256 := decide_eq_true_iff

/-- The crossing that ends a window leaves the factor that the sag's judgement makes. -/
theorem State.takeCrossing_factor_at_boundary {s : State} {rms : Nat} {peak : Quad Nat} (runs : s.heat.supply = .running)
    (last : 50 ≤ s.heat.slot + 1) : (s.takeCrossing rms peak).load.factor = (s.judgeSag rms).load.factor := by
  rw [State.takeCrossing_at_boundary runs last, State.timeCrossing_load, State.beginWindow_factor,
    State.judgeWindow_factor]

/-- Settles O27: step 1 of a boundary judges the sag by page and share record alone, steps 2 to 8 leave the factor that it makes and
take the share under it, and neither a window start nor a loss of supply judges anything. -/
theorem sagMovesShedFactor : Obligations.SagMovesShedFactor := by
  unfold Obligations.SagMovesShedFactor
  refine ⟨?boundary, ?start, ?loss, ?warm, ?powerOn⟩
  case boundary =>
    intro s rms peak running runs last
    refine State.take_reaches running (fun t => t.takeCrossing rms peak) fun t same => ?_
    have factor : t.load.factor = (s.judgeSag rms).load.factor := by
      rw [same.load, State.takeCrossing_factor_at_boundary runs last]
    refine ⟨?moved, ?bounds, ?share, t.alarm_sagShed_iff⟩
    case moved =>
      rw [factor]
      split
      next absent => rw [State.judgeSag_of_no_page rms absent]
      next page applied => exact State.judgeSag_factor_of_page rms applied
    case bounds =>
      rw [factor]
      exact State.judgeSag_factor_bounds rms
    case share =>
      intro page applied draws
      rw [State.takeCrossing_at_boundary runs last] at same
      rw [same.heat, State.timeCrossing_page] at applied
      rw [State.heating_congr (congrArg Heat.supply same.heat) (congrArg Heat.mode same.heat)
        (congrArg Heat.page same.heat) (congrArg Load.status same.load) same.option, State.timeCrossing_heating] at draws
      rw [same.load, State.timeCrossing_load]
      exact State.beginWindow_share applied draws
  case start =>
    intro s rms peak running waits
    refine State.take_reaches running (fun t => t.takeCrossing rms peak) fun t same => ?_
    rw [same.load, State.takeCrossing_factor_of_waiting waits]
  case loss =>
    intro s running
    refine ⟨s.takeExpiry s.heat.supplyTimer State.supplyExpired, rfl, ?_⟩
    rcases s.takeExpiry_cases s.heat.supplyTimer State.supplyExpired with idle | ⟨-, -, same⟩
    · rw [idle]
    · rw [same.load, State.supplyExpired_factor]
  case warm =>
    intro s c running cause
    obtain ⟨t, taken, load⟩ := exec_warmRestart_load running cause
    exact ⟨t, taken, congrArg Load.factor load⟩
  case powerOn =>
    intro s since straps phase elapsed
    exact ⟨_, rfl, congrArg Load.factor (State.releasePowerOn_load straps phase elapsed)⟩

/-! ## SHED-ALL by the pair it finds (R74) -/

section
variable {s : State}

theorem State.takeShedAll_of_window (standing : s.load.standing = false) (status : s.load.status = .none)
    (runs : s.heat.supply = .running) (draws : s.heating.draws = true) :
    s.takeShedAll = { s with load := { s.load with standing := true, status := .shedding, ack := .notDue } } := by
  unfold State.takeShedAll
  simp only [standing, status, (s.windowRuns_iff).2 runs, draws, Bool.and_self, if_true]

/-- With no window to shed, and after a RESTORE that left SHED, the station is shed at once and says so. -/
theorem State.takeShedAll_of_no_window (standing : s.load.standing = false)
    (found : s.load.status = .shed ∨ (s.load.status = .none ∧ ¬(s.heat.supply = .running ∧ s.heating.draws = true))) :
    s.takeShedAll = ({ s with load := { s.load with standing := true, status := .shed } } : State).offerShedAck := by
  unfold State.takeShedAll
  rcases found with status | ⟨status, still⟩
  · simp only [standing, status]
  · have idle : ¬(s.windowRuns && s.heating.draws) = true := by
      rwa [Bool.and_eq_true, State.windowRuns_iff]
    simp only [standing, status, if_neg idle]

theorem State.takeShedAll_of_shedding (standing : s.load.standing = false) (status : s.load.status = .shedding) :
    s.takeShedAll = { s with load := { s.load with standing := true } } := by
  unfold State.takeShedAll
  simp only [standing, status]

theorem State.takeShedAll_of_acknowledged (standing : s.load.standing = true) (status : s.load.status = .shed)
    (ack : s.load.ack = .waiting ∨ s.load.ack = .sent) : s.takeShedAll = s.offerShedAck := by
  unfold State.takeShedAll
  rcases ack with ack | ack <;> simp only [standing, status, ack]

theorem State.takeShedAll_of_under_way (standing : s.load.standing = true)
    (found : s.load.status = .shedding ∨ (s.load.status = .shed ∧ s.load.ack = .awaitingDemand)) :
    s.takeShedAll = s := by
  unfold State.takeShedAll
  rcases found with status | ⟨status, ack⟩
  · simp only [standing, status]
  · simp only [standing, status, ack]

/-! ## RESTORE (R77) -/

theorem State.takeRestore_of_standing (standing : s.load.standing = true) :
    s.takeRestore =
      { s with
        load :=
          { s.load with
            standing := false, ack := .notDue
            status := if s.heat.supply = .running then s.load.status else .none } } := by
  unfold State.takeRestore
  simp only [standing, if_true, State.windowRuns_iff]

theorem State.takeRestore_of_none (standing : s.load.standing = false) : s.takeRestore = s := by
  simp [State.takeRestore, standing]

/-! ## A command for another target (R10) -/

/-- A console's bulletin with another target is echoed and reaches no block. -/
theorem State.receive_of_other_target {bytes : List Byte} {b : Bulletin} (read : readBulletin bytes = some b)
    (console : 8 ≤ b.sender.val) (other : b.target ≠ s.straps.station.val) (notAll : b.target ≠ 15) :
    s.receive bytes = { s with line := { s.line with echoed := true } } := by
  have sender : ¬b.sender.val < 8 := by omega
  unfold State.receive
  rw [read]
  dsimp only
  rw [State.arrive, dif_neg sender, State.arriveFromConsole, if_neg]
  rintro ⟨-, own | all⟩
  · exact other own
  · exact notAll all

end

/-- Settles O31: one case of R74's table for each pair that a run reaches, R77's one, and a bulletin that does not reach the LSU. -/
theorem shedOrdersByPair : Obligations.ShedOrdersByPair := by
  unfold Obligations.ShedOrdersByPair
  refine ⟨?window, ?noWindow, ?shedding, ?again, ?underWay, ?restore, ?restored, ?other⟩
  case window =>
    intro s running standing status runs draws
    refine State.take_reaches running State.takeShedAll fun t same => ?_
    rwa [State.takeShedAll_of_window standing status runs draws] at same
  case noWindow =>
    intro s running standing found
    refine State.take_reaches running State.takeShedAll fun t same => ?_
    rwa [State.takeShedAll_of_no_window standing found] at same
  case shedding =>
    intro s running standing status
    refine State.take_reaches running State.takeShedAll fun t same => ?_
    rwa [State.takeShedAll_of_shedding standing status] at same
  case again =>
    intro s running standing status ack
    refine State.take_reaches running State.takeShedAll fun t same => ?_
    rwa [State.takeShedAll_of_acknowledged standing status ack] at same
  case underWay =>
    intro s running standing found
    refine State.take_reaches running State.takeShedAll fun t same => ?_
    rwa [State.takeShedAll_of_under_way standing found] at same
  case restore =>
    intro s running standing
    refine State.take_reaches running State.takeRestore fun t same => ?_
    rwa [State.takeRestore_of_standing standing] at same
  case restored =>
    intro s running standing
    refine State.take_reaches running State.takeRestore fun t same => ?_
    rwa [State.takeRestore_of_none standing] at same
  case other =>
    intro s bytes b running read console _ own every
    refine State.take_reaches running (fun t => t.receive bytes) fun t same => ?_
    rwa [State.receive_of_other_target read console own every] at same

end Sys2Proof.Machine
end

section
/-! PROOFS. How the levelling sensors are judged and what their faults do to the side (R83, R84), and how a JOG is judged and taken
(R98, R99), with the two obligations that say so. -/

namespace Sys2Proof.Machine

/-! ## The levelling sensors' records -/

theorem levellingReading_eq_some_iff (r : Reading) (v : Int) :
    levellingReading r = some v ↔ r = .value v ∧ -1000 ≤ v ∧ v ≤ 1000 :=
  readingWithin_eq_some_iff (-1000) 1000 r v

theorem levellingReading_eq_none {r : Reading} (outside : ∀ v, r = .value v → v < -1000 ∨ 1000 < v) :
    levellingReading r = none := by
  refine Option.eq_none_iff_forall_ne_some.2 fun v valid => ?_
  obtain ⟨value, low, high⟩ := (levellingReading_eq_some_iff r v).1 valid
  have := outside v value
  omega

section
variable (l : Levelling) (sensor : LevellingSensor) (r : Sensor)

@[simp] theorem Levelling.setSensor_mode : (l.setSensor sensor r).mode = l.mode := by cases sensor <;> rfl
@[simp] theorem Levelling.setSensor_condition : (l.setSensor sensor r).condition = l.condition := by cases sensor <;> rfl
@[simp] theorem Levelling.sensor_setSensor : (l.setSensor sensor r).sensor sensor = r := by cases sensor <;> rfl

theorem Levelling.sensor_setSensor_of_ne {sensor other : LevellingSensor} (h : other ≠ sensor) :
    (l.setSensor sensor r).sensor other = l.sensor other := by
  cases sensor with
  | grade =>
    cases other with
    | grade => exact absurd rfl h
    | slope => rfl
  | slope =>
    cases other with
    | grade => rfl
    | slope => exact absurd rfl h

end

/-! ## The fault of a sensor -/

/-- The side is in AUTO on a sensor: the grade sensor is AUTO-GRADE's and the slope sensor AUTO-SLOPE's (R84). -/
def Levelling.SteersBy (l : Levelling) (sensor : LevellingSensor) : Prop :=
  (l.mode = .autoGrade ∧ sensor = .grade) ∨ (l.mode = .autoSlope ∧ sensor = .slope)

@[simp] theorem Levelling.steersBy_setSensor (l : Levelling) (sensor other : LevellingSensor) (r : Sensor) :
    (l.setSensor other r).SteersBy sensor ↔ l.SteersBy sensor := by
  rw [Levelling.SteersBy, Levelling.setSensor_mode, Levelling.SteersBy]

section
variable {l : Levelling} {sensor : LevellingSensor} (now : Nat)

theorem Levelling.settleCondition_of_cause_in_active (condition : l.condition = .active) (cause : l.causes.any = true) :
    l.settleCondition now = { l.cut now with condition := .hold } := by
  simp [Levelling.settleCondition, condition, cause]

/-- A cause leaves HOLD, FROZEN and SETTLING as they are (R88). -/
theorem Levelling.settleCondition_of_cause_elsewhere (condition : l.condition ≠ .active) (cause : l.causes.any = true) :
    l.settleCondition now = l := by
  simp [Levelling.settleCondition, condition, cause]

theorem Levelling.faulted_of_steersBy (steers : l.SteersBy sensor) :
    l.faulted sensor now = ({ l with causes := { l.causes with sensor := true } } : Levelling).settleCondition now := by
  refine if_pos ?_
  simpa [Levelling.SteersBy] using steers

theorem Levelling.faulted_of_not_steersBy (other : ¬l.SteersBy sensor) : l.faulted sensor now = l := by
  refine if_neg fun own => other ?_
  simpa [Levelling.SteersBy] using own

theorem Levelling.faulted_of_active (steers : l.SteersBy sensor) (condition : l.condition = .active) :
    l.faulted sensor now =
      { ({ l with causes := { l.causes with sensor := true } } : Levelling).cut now with condition := .hold } :=
  (Levelling.faulted_of_steersBy now steers).trans (Levelling.settleCondition_of_cause_in_active now condition rfl)

theorem Levelling.faulted_of_not_active (steers : l.SteersBy sensor) (condition : l.condition ≠ .active) :
    l.faulted sensor now = { l with causes := { l.causes with sensor := true } } :=
  (Levelling.faulted_of_steersBy now steers).trans (Levelling.settleCondition_of_cause_elsewhere now condition rfl)

/-- A fault acts on the side and leaves both sensors' records. -/
theorem Levelling.faulted_sensor (l : Levelling) (sensor other : LevellingSensor) :
    (l.faulted sensor now).sensor other = l.sensor other := by
  by_cases steers : l.SteersBy sensor
  · by_cases condition : l.condition = .active
    · rw [Levelling.faulted_of_active now steers condition]
      cases other <;> rfl
    · rw [Levelling.faulted_of_not_active now steers condition]
      cases other <;> rfl
  · rw [Levelling.faulted_of_not_steersBy now steers]

theorem Levelling.faulted_causes_sensor (steers : l.SteersBy sensor) : (l.faulted sensor now).causes.sensor = true := by
  by_cases condition : l.condition = .active
  · rw [Levelling.faulted_of_active now steers condition]
    rfl
  · rw [Levelling.faulted_of_not_active now steers condition]

end

/-! ## Readings and silence -/

section
variable {s : State} {sensor : LevellingSensor}

theorem State.takeLevellingReading_of_valid {v : Int} (fitted : s.levelling = true) (low : -1000 ≤ v) (high : v ≤ 1000) :
    s.takeLevellingReading sensor (.value v) =
      { s with level := s.level.setSensor sensor ⟨some v, false, some (s.now + 2000)⟩ } := by
  have valid : levellingReading (.value v) = some v := (levellingReading_eq_some_iff _ v).2 ⟨rfl, low, high⟩
  simp only [State.takeLevellingReading, fitted, valid, if_true, Option.isSome_some]
  rfl

theorem State.takeLevellingReading_of_fault {r : Reading} (fitted : s.levelling = true)
    (outside : ∀ v, r = .value v → v < -1000 ∨ 1000 < v) :
    s.takeLevellingReading sensor r =
      { s with
        level :=
          (s.level.setSensor sensor ⟨(s.level.sensor sensor).last, true, some (s.now + 2000)⟩).faulted sensor s.now } := by
  simp only [State.takeLevellingReading, fitted, levellingReading_eq_none outside, if_true]
  rfl

theorem State.takeLevellingReading_of_unfitted (r : Reading) (unfitted : s.levelling = false) :
    s.takeLevellingReading sensor r = s := by
  simp [State.takeLevellingReading, unfitted]

/-- A reading out of range and a silence both set FAULT and act on the side; they differ in the silence timer alone (R83, R84). -/
theorem exec_levellingFault {c : Instr} {timer : Option Nat} (running : s.phase = .running) (fitted : s.levelling = true)
    (cause :
      (∃ r, c = .gradeSlopeReading sensor r ∧ (∀ v, r = .value v → v < -1000 ∨ 1000 < v) ∧ timer = some (s.now + 2000)) ∨
        (c = .gradeSlopeSilenceExpiry sensor ∧ timer = none ∧ ∃ d, (s.level.sensor sensor).timer = some d ∧ d ≤ s.now)) :
    ∃ t, exec c s = .next t ∧
      State.SameButStatus
        { s with level := (s.level.setSensor sensor ⟨(s.level.sensor sensor).last, true, timer⟩).faulted sensor s.now } t := by
  rcases cause with ⟨r, rfl, outside, rfl⟩ | ⟨rfl, rfl, d, runs, came⟩
  · have same := State.take_sameButStatus running fun t => t.takeLevellingReading sensor r
    rw [State.takeLevellingReading_of_fault fitted outside] at same
    exact ⟨_, rfl, same⟩
  · exact ⟨_, rfl, State.takeExpiry_sameButStatus running runs came fun t => t.levellingSilent sensor⟩

end

/-- Settles O33: a valid reading replaces its sensor's record; a fault replaces it too and then acts on the side as the side's mode
and condition have it. -/
theorem levellingSensorsJudged : Obligations.LevellingSensorsJudged := by
  unfold Obligations.LevellingSensorsJudged
  refine ⟨?valid, ?fault, ?unfitted⟩
  case valid =>
    intro s sensor v running fitted low high
    refine State.take_reaches running (fun t => t.takeLevellingReading sensor (.value v)) fun t same => ?_
    rwa [State.takeLevellingReading_of_valid fitted low high] at same
  case fault =>
    intro s sensor c timer running fitted cause
    obtain ⟨t, taken, same⟩ := exec_levellingFault running fitted cause
    refine ⟨t, taken, ?record, ?others, ?frame, ?own, ?other⟩
    case record => rw [same.level, Levelling.faulted_sensor, Levelling.sensor_setSensor]
    case others =>
      intro other differs
      rw [same.level, Levelling.faulted_sensor, Levelling.sensor_setSensor_of_ne _ _ differs]
    case frame =>
      rw [same.level]
      exact same
    case own =>
      intro own
      have steers := (s.level.steersBy_setSensor sensor sensor ⟨(s.level.sensor sensor).last, true, timer⟩).2 own
      rw [same.level]
      refine ⟨Levelling.faulted_causes_sensor s.now steers, fun active => ?_, fun idle => ?_⟩
      · rw [Levelling.faulted_of_active s.now steers (by simpa using active)]
        exact ⟨rfl, Levelling.cut_energised _ s.now⟩
      · rw [Levelling.faulted_of_not_active s.now steers (by simpa using idle)]
        exact Levelling.setSensor_condition ..
    case other =>
      intro other
      rw [same.level]
      exact Levelling.faulted_of_not_steersBy s.now ((Levelling.steersBy_setSensor ..).not.2 other)
  case unfitted =>
    intro s sensor r running unfitted
    refine State.take_reaches running (fun t => t.takeLevellingReading sensor r) fun t same => ?_
    rwa [State.takeLevellingReading_of_unfitted r unfitted] at same

/-! ## A JOG refused (R99) -/

section
variable {s : State}

theorem State.jogRefusal_of_unfitted (unfitted : s.levelling = false) :
    s.jogRefusal = some (if s.straps.towStrap then .strappedOff else .notFitted) := by
  cases strap : s.straps.towStrap <;> simp [State.jogRefusal, State.unfittedTow, unfitted, strap]

theorem State.jogRefusal_of_fitted (fitted : s.levelling = true) :
    s.jogRefusal = if s.sup.station ≠ .run then some .parked else if s.level.mode = .off then some .sideOff else none := by
  simp [State.jogRefusal, State.unfittedTow, State.parkedOrWaking, fitted]

theorem State.jogRefusal_of_parked (fitted : s.levelling = true) (parked : s.sup.station ≠ .run) :
    s.jogRefusal = some .parked := by
  rw [State.jogRefusal_of_fitted fitted, if_pos parked]

theorem State.jogRefusal_of_off (fitted : s.levelling = true) (run : s.sup.station = .run) (off : s.level.mode = .off) :
    s.jogRefusal = some .sideOff := by
  rw [State.jogRefusal_of_fitted fitted, if_neg (not_not.2 run), if_pos off]

theorem State.jogRefusal_eq_none (fitted : s.levelling = true) (run : s.sup.station = .run) (on : s.level.mode ≠ .off) :
    s.jogRefusal = none := by
  rw [State.jogRefusal_of_fitted fitted, if_neg (not_not.2 run), if_neg on]

theorem State.takeJog_of_refused {r : Reason} (sender : Fin 16) (d : Direction) (n : Nat) (refused : s.jogRefusal = some r) :
    s.takeJog sender d n = s.judged .jog none sender (some r) := by
  simp [State.takeJog, refused]

theorem State.takeJog_of_accepted (sender : Fin 16) (d : Direction) (n : Nat) (accepted : s.jogRefusal = none) :
    s.takeJog sender d n = ({ s with level := s.level.jog d n s.now } : State).judged .jog none sender none := by
  simp [State.takeJog, accepted]

/-- An accepted JOG does what the side's mode makes of it, under an outcome that says so (R168). -/
theorem exec_jog_accepted (sender : Fin 16) (d : Direction) (n : Nat) (running : s.phase = .running)
    (fitted : s.levelling = true) (run : s.sup.station = .run) (on : s.level.mode ≠ .off) :
    ∃ t, exec (.jog sender d n) s = .next t ∧
      State.SameButStatus (({ s with level := s.level.jog d n s.now } : State).judged .jog none sender none) t := by
  refine State.take_reaches running (fun t => t.takeJog sender d n) fun t same => ?_
  rwa [State.takeJog_of_accepted sender d n (State.jogRefusal_eq_none fitted run on)] at same

end

/-! ## A JOG accepted (R98) -/

theorem ne_off_of_isAuto {m : SideMode} (auto : isAuto m = true) : m ≠ .off := by
  rintro rfl
  cases auto

theorem jogShift_eq (m : SideMode) (d : Direction) (v : Int) :
    jogShift m d v =
      max (-1000) (min 1000
        (if d = .raise then v + (if m = .autoSlope then 5 else 10) else v - (if m = .autoSlope then 5 else 10))) := by
  have clamped : jogShift m d v = max (-1000) (min 1000 (v + jogStep m d)) := clampInt_eq (by decide) _
  rw [clamped]
  cases d <;> simp [jogStep, sub_eq_add_neg]

section
variable {l : Levelling} (d : Direction) (n now : Nat)

theorem Levelling.jog_of_auto (auto : isAuto l.mode = true) : l.jog d n now = l.jogReference d := if_pos auto

/-- In AUTO with a captured reference the reference of the side's mode is shifted, and a valid record's with it. -/
theorem Levelling.jog_of_captured (auto : isAuto l.mode = true) (captured : l.captured = true) :
    l.jog d n now =
      { l with
        gradeRef := if l.mode = .autoSlope then l.gradeRef else jogShift l.mode d l.gradeRef
        slopeRef := if l.mode = .autoSlope then jogShift l.mode d l.slopeRef else l.slopeRef
        resume := l.resume.map fun r => { r with reference := r.reference.map (jogShift l.mode d) } } := by
  rw [Levelling.jog_of_auto d n now auto]
  by_cases slope : l.mode = .autoSlope <;>
    simp [Levelling.jogReference, Levelling.setReference, Levelling.referenceOf, captured, slope]

theorem Levelling.jog_of_not_captured (auto : isAuto l.mode = true) (uncaptured : l.captured = false) :
    l.jog d n now = l := by
  rw [Levelling.jog_of_auto d n now auto]
  simp [Levelling.jogReference, uncaptured]

/-- In MANUAL the driver takes a pulse request of the length asked for, clamped to 20 to 1000 ms. -/
theorem Levelling.jog_of_manual (manual : l.mode = .manual) :
    l.jog d n now =
      { l with driver := l.driver.request ⟨d, .jog, .length (10 * max 20 (min 1000 n))⟩ l.deadTime now } := by
  have length : Config.ms (clampNat 20 1000 n) = 10 * max 20 (min 1000 n) := by
    rw [clampNat_eq (by decide), Config.ms]
  simp [Levelling.jog, manual, isAuto, length]

end

/-- Settles O37: the refusals in R99's order, then what each mode makes of an accepted JOG. -/
theorem jogJudged : Obligations.JogJudged := by
  unfold Obligations.JogJudged
  refine ⟨?refused, ?captured, ?uncaptured, ?manual⟩
  case refused =>
    intro s sender d n reason running found
    have refused : s.jogRefusal = some reason := by
      rcases found with ⟨unfitted, rfl⟩ | ⟨fitted, parked, rfl⟩ | ⟨fitted, run, off, rfl⟩
      · exact State.jogRefusal_of_unfitted unfitted
      · exact State.jogRefusal_of_parked fitted parked
      · exact State.jogRefusal_of_off fitted run off
    refine State.take_reaches running (fun t => t.takeJog sender d n) fun t same => ?_
    rwa [State.takeJog_of_refused sender d n refused] at same
  case captured =>
    intro s sender d n running fitted run auto captured
    obtain ⟨t, taken, same⟩ := exec_jog_accepted sender d n running fitted run (ne_off_of_isAuto auto)
    rw [Levelling.jog_of_captured d n s.now auto captured] at same
    refine ⟨t, taken, ?_⟩
    simp only [← jogShift_eq]
    exact same
  case uncaptured =>
    intro s sender d n running fitted run auto uncaptured
    obtain ⟨t, taken, same⟩ := exec_jog_accepted sender d n running fitted run (ne_off_of_isAuto auto)
    rw [Levelling.jog_of_not_captured d n s.now auto uncaptured] at same
    exact ⟨t, taken, same⟩
  case manual =>
    intro s sender d n running fitted run manual
    obtain ⟨t, taken, same⟩ := exec_jog_accepted sender d n running fitted run (by simp [manual])
    rw [Levelling.jog_of_manual d n s.now manual, Levelling.deadTime_eq] at same
    exact ⟨t, taken, same⟩

end Sys2Proof.Machine
end

section
/-! PROOFS. How a MODE on a conveyor or an auger is judged and what it makes of the drive (R119, R120), with the obligation that
says so. -/

namespace Sys2Proof.Machine

/-! ## A MODE on a drive refused (R119) -/

theorem State.parked_iff (s : State) : s.parked = true ↔ s.sup.station = .park ∨ s.sup.station = .parkInquiry := by
  simp [State.parked]

section
variable {s : State} {m : DriveMode}

theorem State.driveModeRefusal_of_not_owner (other : s.owner = false) :
    s.driveModeRefusal m = some (if s.straps.ownerStrap then .strappedOff else .notFitted) := by
  cases strap : s.straps.ownerStrap <;> simp [State.driveModeRefusal, State.unfittedFeed, other, strap]

theorem State.driveModeRefusal_of_owner (owner : s.owner = true) :
    s.driveModeRefusal m =
      if m ≠ .off ∧ s.parked = true then some .parked
      else if m = .auto ∧ s.settings.feed = none then some .noPage else none := by
  simp [State.driveModeRefusal, State.unfittedFeed, owner]

theorem State.driveModeRefusal_of_parked (owner : s.owner = true) (on : m ≠ .off) (parked : s.parked = true) :
    s.driveModeRefusal m = some .parked := by
  rw [State.driveModeRefusal_of_owner owner, if_pos ⟨on, parked⟩]

theorem State.driveModeRefusal_of_no_page (owner : s.owner = true) (auto : m = .auto) (awake : ¬s.parked = true)
    (absent : s.settings.feed = none) : s.driveModeRefusal m = some .noPage := by
  rw [State.driveModeRefusal_of_owner owner, if_neg fun refused => awake refused.2, if_pos ⟨auto, absent⟩]

/-- OFF is taken at every feed owner: neither a parked station nor an absent page refuses it. -/
theorem State.driveModeRefusal_of_off (owner : s.owner = true) (off : m = .off) : s.driveModeRefusal m = none := by
  rw [State.driveModeRefusal_of_owner owner, if_neg fun refused => refused.1 off, if_neg (by simp [off])]

theorem State.driveModeRefusal_of_awake (owner : s.owner = true) (awake : ¬s.parked = true)
    (page : m = .auto → s.settings.feed.isSome = true) : s.driveModeRefusal m = none := by
  rw [State.driveModeRefusal_of_owner owner, if_neg fun refused => awake refused.2, if_neg]
  rintro ⟨auto, absent⟩
  simpa [absent] using page auto

theorem State.takeModeDrive_of_refused {r : Reason} (sender : Fin 16) (d : Drive) (n : Nat)
    (refused : s.driveModeRefusal m = some r) :
    s.takeModeDrive sender d m n = s.judged .mode (some (driveFunction d)) sender (some r) := by
  simp [State.takeModeDrive, refused]

theorem State.takeModeDrive_of_accepted (sender : Fin 16) (d : Drive) (n : Nat) (accepted : s.driveModeRefusal m = none) :
    s.takeModeDrive sender d m n =
      ({ s with feed := s.feed.setDrive d ((s.feed.drive d).setMode m n) } : State).judged .mode (some (driveFunction d))
        sender none := by
  simp [State.takeModeDrive, accepted]

end

/-! ## The table of changes (R120) -/

theorem DriveCondition.manual_eq (c : DriveCondition) :
    c.manual = if c = .sensorHold ∨ c = .sensorRamp then .driving else c := by
  cases c <;> rfl

section
variable {r : DriveRecord} (n : Nat)

theorem DriveRecord.setMode_off_of_off (off : r.mode = .off) : r.setMode .off n = r := by
  simp [DriveRecord.setMode, off]

theorem DriveRecord.setMode_off_of_on (on : r.mode ≠ .off) :
    r.setMode .off n = { r with mode := .off, condition := .none, command := 0, stallTimer := none, holdTimer := none } := by
  cases mode : r.mode with
  | off => exact absurd mode on
  | manual => simp [DriveRecord.setMode, mode]
  | auto => simp [DriveRecord.setMode, mode]

theorem DriveRecord.setMode_manual_of_off (off : r.mode = .off) :
    r.setMode .manual n = { r with mode := .manual, condition := .driving, manualTarget := min 1000 n } := by
  simp [DriveRecord.setMode, off]

theorem DriveRecord.setMode_manual_of_manual (manual : r.mode = .manual) :
    r.setMode .manual n = { r with manualTarget := min 1000 n } := by
  simp [DriveRecord.setMode, manual]

/-- From AUTO the drive goes on from the command it had, and a condition of the sensor's ends (R120, R124). -/
theorem DriveRecord.setMode_manual_of_auto (auto : r.mode = .auto) :
    r.setMode .manual n =
      { r with
        mode := .manual, manualTarget := min 1000 n, holdTimer := none
        condition := if r.condition = .sensorHold ∨ r.condition = .sensorRamp then .driving else r.condition } := by
  simp [DriveRecord.setMode, auto, DriveCondition.manual_eq]

theorem DriveRecord.setMode_auto_of_off (off : r.mode = .off) :
    r.setMode .auto n = { r with mode := .auto, condition := .driving } := by
  simp [DriveRecord.setMode, off]

theorem DriveRecord.setMode_auto_of_manual (manual : r.mode = .manual) :
    r.setMode .auto n = { r with mode := .auto } := by
  simp [DriveRecord.setMode, manual]

theorem DriveRecord.setMode_auto_of_auto (auto : r.mode = .auto) : r.setMode .auto n = r := by
  simp [DriveRecord.setMode, auto]

end

/-- An accepted MODE replaces the record of the drive it names, under an outcome that says so (R168). -/
theorem exec_modeConveyorAuger_accepted {s : State} {m : DriveMode} {n : Nat} {r : DriveRecord} (sender : Fin 16) (d : Drive)
    (running : s.phase = .running) (accepted : s.driveModeRefusal m = none) (table : (s.feed.drive d).setMode m n = r) :
    ∃ t, exec (.modeConveyorAuger sender d m n) s = .next t ∧
      State.SameButStatus
        (({ s with feed := s.feed.setDrive d r } : State).judged .mode (some (driveFunction d)) sender none) t := by
  refine State.take_reaches running (fun t => t.takeModeDrive sender d m n) fun t same => ?_
  rwa [State.takeModeDrive_of_accepted sender d n accepted, table] at same

/-- Settles O40: the refusals in R119's order, then R120's table by the mode commanded and the mode the drive is in. -/
theorem modeDriveJudged : Obligations.ModeDriveJudged := by
  unfold Obligations.ModeDriveJudged
  refine ⟨?refused, ?accepted⟩
  case refused =>
    intro s sender d m n reason running found
    have refused : s.driveModeRefusal m = some reason := by
      rcases found with ⟨other, rfl⟩ | ⟨owner, on, parked, rfl⟩ | ⟨owner, auto, park, inquiry, absent, rfl⟩
      · exact State.driveModeRefusal_of_not_owner other
      · exact State.driveModeRefusal_of_parked owner on (s.parked_iff.2 parked)
      · exact State.driveModeRefusal_of_no_page owner auto (s.parked_iff.not.2 (not_or.2 ⟨park, inquiry⟩)) absent
    refine State.take_reaches running (fun t => t.takeModeDrive sender d m n) fun t same => ?_
    rwa [State.takeModeDrive_of_refused sender d n refused] at same
  case accepted =>
    intro s sender d m n running owner allowed
    have accepted : s.driveModeRefusal m = none := by
      rcases allowed with off | ⟨park, inquiry, page⟩
      · exact State.driveModeRefusal_of_off owner off
      · exact State.driveModeRefusal_of_awake owner (s.parked_iff.not.2 (not_or.2 ⟨park, inquiry⟩)) page
    refine exec_modeConveyorAuger_accepted sender d running accepted ?table
    case table =>
      generalize s.feed.drive d = r
      dsimp only
      cases m with
      | off =>
        cases mode : r.mode with
        | off => exact DriveRecord.setMode_off_of_off n mode
        | manual => exact DriveRecord.setMode_off_of_on n (by simp [mode])
        | auto => exact DriveRecord.setMode_off_of_on n (by simp [mode])
      | manual =>
        cases mode : r.mode with
        | off => exact DriveRecord.setMode_manual_of_off n mode
        | manual => rw [DriveRecord.setMode_manual_of_manual n mode, mode]
        | auto => exact DriveRecord.setMode_manual_of_auto n mode
      | auto =>
        cases mode : r.mode with
        | off => exact DriveRecord.setMode_auto_of_off n mode
        | manual => exact DriveRecord.setMode_auto_of_manual n mode
        | auto => exact DriveRecord.setMode_auto_of_auto n mode

end Sys2Proof.Machine
end

section
/-! PROOFS. How a PARK is judged and what park entry makes of the station, the valve driver and the open row (R140, R142, R174, R175),
with the obligation that says so. -/

namespace Sys2Proof.Machine

/-! ## What the Row Builder leaves as it is -/

section
variable {s t : State} (h : State.RowFrame s t)
include h

theorem State.RowFrame.travel : t.travel = s.travel := by rw [h]
theorem State.RowFrame.heat : t.heat = s.heat := by rw [h]
theorem State.RowFrame.load : t.load = s.load := by rw [h]
theorem State.RowFrame.level : t.level = s.level := by rw [h]
theorem State.RowFrame.feed : t.feed = s.feed := by rw [h]
theorem State.RowFrame.settings : t.settings = s.settings := by rw [h]
theorem State.RowFrame.station : t.sup.station = s.sup.station := by rw [h]
theorem State.RowFrame.option : t.sup.option = s.sup.option := by rw [h]
theorem State.RowFrame.wakingTimer : t.sup.wakingTimer = s.sup.wakingTimer := by rw [h]
theorem State.RowFrame.wakeOwed : t.sup.wakeOwed = s.sup.wakeOwed := by rw [h]

end

/-! ## A row handed to the ring (R153) -/

/-- Below 512 rows the row is committed under the next sequence, in either ring mode. -/
theorem Ring.commit_of_room {g : Ring} (row : Row) (room : g.rows.length < 512) :
    g.commit row = { g with rows := g.rows ++ [⟨g.next, row⟩], next := g.next + 1, closed := g.closed + 1 } :=
  if_pos room

theorem State.commitRow_ring (s : State) (row : Row) : (s.commitRow row).ring = s.ring.commit row := by
  unfold State.commitRow
  split_ifs <;> rfl

/-! ## The end of a row (R142, R146) -/

/-- A RECORD page applied hands the ring its mode and nothing else (R148). -/
theorem State.applyRecordPage_ring (s : State) :
    s.applyRecordPage.ring = { s.ring with mode := s.applyRecordPage.ring.mode } := by
  unfold State.applyRecordPage
  split_ifs
  · split <;> rfl
  · rfl

theorem State.endRow_ring (s : State) : s.endRow.ring = { s.ring with mode := s.endRow.ring.mode } := by
  have applied : s.endRow.ring = s.applyRecordPage.ring := State.tryOpenRow_ring _
  rw [applied]
  exact s.applyRecordPage_ring

section
variable {s : State} {r : OpenRow} {page : RecordPage} {cause : CloseCause}

/-- Outside RUN no row follows the one that ended (R138). -/
theorem State.endRow_openRow (still : s.sup.station ≠ .run) : s.endRow.rows.openRow = none := by
  have station := s.applyRecordPage_frame.station
  rw [State.endRow, State.tryOpenRow_of_not_run (by rwa [← station] at still)]

theorem State.closeKept_openRow (length : Nat) (still : s.sup.station ≠ .run) :
    (s.closeKept r page cause length).rows.openRow = none := by
  refine State.endRow_openRow ?_
  rwa [← (s.commitRow_frame (s.formRow r page cause length)).station] at still

/-- A kept row is handed to the ring as it was formed. -/
theorem State.closeKept_ring (length : Nat) :
    (s.closeKept r page cause length).ring =
      { s.ring.commit (s.formRow r page cause length) with mode := (s.closeKept r page cause length).ring.mode } := by
  rw [← State.commitRow_ring]
  exact State.endRow_ring _

/-! ## A row closed early (R140, R142) -/

theorem OpenRow.earlyLength_eq (r : OpenRow) (c : Nat) : r.earlyLength c = c - r.start := by
  unfold OpenRow.earlyLength
  split_ifs <;> omega

theorem State.closeEarly_of_kept (applied : s.rows.page = some page) (long : r.start < s.rows.lastChainage)
    (swept : r.sweeps ≠ 0) : s.closeEarly r cause = s.closeKept r page cause (s.rows.lastChainage - r.start) := by
  have kept : ¬(s.rows.lastChainage - r.start = 0 ∨ r.sweeps = 0) := by omega
  simp only [State.closeEarly, OpenRow.earlyLength_eq, applied, if_neg kept]

/-- A row with no length or no counted sweep only ends. -/
theorem State.closeEarly_of_discarded (empty : s.rows.lastChainage ≤ r.start ∨ r.sweeps = 0) :
    s.closeEarly r cause = s.endRow := by
  have discarded : s.rows.lastChainage - r.start = 0 ∨ r.sweeps = 0 := by omega
  cases applied : s.rows.page with
  | none => simp only [State.closeEarly, applied]
  | some page => simp only [State.closeEarly, OpenRow.earlyLength_eq, applied, if_pos discarded]

theorem State.closeEarly_openRow (still : s.sup.station ≠ .run) : (s.closeEarly r cause).rows.openRow = none := by
  unfold State.closeEarly
  dsimp only
  split
  · split_ifs
    · exact State.endRow_openRow still
    · exact State.closeKept_openRow _ still
  · exact State.endRow_openRow still

end

/-! ## Park entry at the Row Builder (R133, R140) -/

/-- The high-water mark and the continuation point set for the open row that park entry closes (R140). -/
def State.markedForPark (s : State) (r : OpenRow) : State :=
  { s with
    rows :=
      s.rows.marked (max (s.rows.highWater.getD s.rows.lastChainage) s.rows.lastChainage)
        (max r.start s.rows.lastChainage) }

section
variable {s : State}

theorem State.parkRows_of_open {r : OpenRow} (found : s.rows.openRow = some r) :
    s.parkRows =
      { (s.markedForPark r).closeEarly r .park with
        rows := { ((s.markedForPark r).closeEarly r .park).rows with scannerOn := false, silence := .stopped } } := by
  unfold State.parkRows
  rw [found]
  rfl

theorem State.parkRows_of_none (absent : s.rows.openRow = none) :
    s.parkRows = { s with rows := { s.rows with scannerOn := false, silence := .stopped } } := by
  unfold State.parkRows
  rw [absent]

theorem State.parkRows_scannerOn (s : State) : s.parkRows.rows.scannerOn = false := rfl
theorem State.parkRows_silence (s : State) : s.parkRows.rows.silence = .stopped := rfl

theorem State.parkRows_openRow (still : s.sup.station ≠ .run) : s.parkRows.rows.openRow = none := by
  cases found : s.rows.openRow with
  | none =>
    rw [State.parkRows_of_none found]
    exact found
  | some r =>
    rw [State.parkRows_of_open found]
    exact State.closeEarly_openRow (s := s.markedForPark r) still

/-- Into a ring with room the open row goes under the next sequence, closed PARK at the last chainage. -/
theorem State.parkRows_commits {r : OpenRow} {page : RecordPage} (found : s.rows.openRow = some r)
    (applied : s.rows.page = some page) (long : r.start < s.rows.lastChainage) (swept : r.sweeps ≠ 0)
    (room : s.ring.rows.length < 512) :
    ∃ row, s.parkRows.ring.rows = s.ring.rows ++ [⟨s.ring.next, row⟩] ∧ s.parkRows.ring.closed = s.ring.closed + 1 ∧
      row.cause = .park ∧ row.start = r.start ∧ row.length = s.rows.lastChainage - r.start := by
  have ring := State.closeKept_ring (s := s.markedForPark r) (r := r) (page := page) (cause := .park)
    (s.rows.lastChainage - r.start)
  rw [Ring.commit_of_room (g := (s.markedForPark r).ring) _ room] at ring
  have kept := State.closeEarly_of_kept (s := s.markedForPark r) (cause := .park) applied long swept
  rw [State.parkRows_of_open found, kept]
  exact ⟨_, congrArg Ring.rows ring, congrArg Ring.closed ring, rfl, rfl, rfl⟩

/-- With no row open, or one that is discarded, park entry leaves the ring but for the mode of a page that waited. -/
theorem State.parkRows_ring_of_discarded
    (empty : ∀ r, s.rows.openRow = some r → s.rows.lastChainage ≤ r.start ∨ r.sweeps = 0) :
    s.parkRows.ring = { s.ring with mode := s.parkRows.ring.mode } := by
  cases found : s.rows.openRow with
  | none => rw [State.parkRows_of_none found]
  | some r =>
    have discarded := State.closeEarly_of_discarded (s := s.markedForPark r) (cause := .park) (empty r found)
    rw [State.parkRows_of_open found, discarded]
    exact State.endRow_ring (s.markedForPark r)

end

/-! ## A PARK judged (R174) -/

section
variable {s : State}

theorem State.parkRefusal_of_auto (auto : isAuto s.level.mode = true) : s.parkRefusal = some .levellingAuto := if_pos auto

theorem State.parkRefusal_of_feed_running (manual : isAuto s.level.mode = false)
    (runs : s.feed.conveyor.mode ≠ .off ∨ s.feed.auger.mode ≠ .off) : s.parkRefusal = some .feedRunning := by
  simp [State.parkRefusal, manual, runs]

theorem State.parkRefusal_eq_none (manual : isAuto s.level.mode = false) (conveyor : s.feed.conveyor.mode = .off)
    (auger : s.feed.auger.mode = .off) : s.parkRefusal = none := by
  simp [State.parkRefusal, manual, conveyor, auger]

theorem State.takePark_of_refused {reason : Reason} (sender : Fin 16) (o : ParkOption)
    (refused : s.parkRefusal = some reason) :
    s.takePark sender o = (s.raise .parkRefused).judged .park none sender (some reason) := by
  simp [State.takePark, refused]

theorem State.takePark_of_accepted (sender : Fin 16) (o : ParkOption) (accepted : s.parkRefusal = none) :
    s.takePark sender o = (s.acceptPark o).judged .park none sender none := by
  simp [State.takePark, accepted]

theorem State.acceptPark_of_parked (o : ParkOption) (parked : s.parked = true) :
    s.acceptPark o = { s with sup := { s.sup with option := some o, wakeOwed := false } } := if_pos parked

theorem State.acceptPark_of_awake (o : ParkOption) (awake : ¬s.parked = true) : s.acceptPark o = s.enterPark o :=
  if_neg awake

/-- With no side in AUTO and both drives OFF a PARK is accepted, under an outcome that says so (R168). -/
theorem exec_park_accepted (sender : Fin 16) (o : ParkOption) (running : s.phase = .running)
    (manual : isAuto s.level.mode = false) (conveyor : s.feed.conveyor.mode = .off) (auger : s.feed.auger.mode = .off) :
    ∃ t, exec (.park sender o) s = .next t ∧
      State.SameButStatus ((s.acceptPark o).judged .park none sender none) t := by
  refine State.take_reaches running (fun t => t.takePark sender o) fun t same => ?_
  rwa [State.takePark_of_accepted sender o (State.parkRefusal_eq_none manual conveyor auger)] at same

/-! ## Park entry (R175) -/

theorem State.driveOutput_of_parked (d : Drive) (parked : s.parked = true) : s.driveOutput d = 0 := by
  simp [State.driveOutput, parked]

theorem Supervisor.parked_station (v : Supervisor) (o : ParkOption) (collecting : Bool) :
    (v.parked o collecting).station = if collecting then .parkInquiry else .park := rfl

/-- The state whose rows park entry closes: the station is parked and the valve driver is cut (R97, R175). -/
def State.parkedAndCut (s : State) (o : ParkOption) : State :=
  ({ s with sup := s.sup.parked o s.ring.collection.inFlight } : State).cutValve

theorem State.enterPark_eq (s : State) (o : ParkOption) : s.enterPark o = (s.parkedAndCut o).parkRows := rfl

/-- Nothing outside the rows, the ring and the event alarms differs from the parked station with its driver cut. -/
theorem State.enterPark_frame (s : State) (o : ParkOption) : State.RowFrame (s.parkedAndCut o) (s.enterPark o) :=
  State.parkRows_frame _

theorem State.enterPark_station (s : State) (o : ParkOption) :
    (s.enterPark o).sup.station = if s.ring.collection.inFlight then .parkInquiry else .park :=
  (s.enterPark_frame o).station.trans (Supervisor.parked_station ..)

theorem State.enterPark_level (s : State) (o : ParkOption) : (s.enterPark o).level = s.level.cut s.now :=
  (s.enterPark_frame o).level

theorem State.parkedAndCut_station_ne_run (s : State) (o : ParkOption) : (s.parkedAndCut o).sup.station ≠ .run := by
  show (s.sup.parked o s.ring.collection.inFlight).station ≠ .run
  rw [Supervisor.parked_station]
  split_ifs <;> decide

theorem State.parked_of_station {collecting : Bool}
    (station : s.sup.station = if collecting then .parkInquiry else .park) : s.parked = true := by
  rw [State.parked_iff, station]
  cases collecting
  · exact .inl rfl
  · exact .inr rfl

end

/-- Settles O48: a refusal is R174's first test, a parked station changes its option, and park entry is that of the station, then of
the valve driver, then of the rows. -/
theorem parkJudgedAndEntered : Obligations.ParkJudgedAndEntered := by
  unfold Obligations.ParkJudgedAndEntered
  refine ⟨?refused, ?parked, ?entered⟩
  case refused =>
    intro s sender o reason running found
    have refused : s.parkRefusal = some reason := by
      rcases found with ⟨auto, rfl⟩ | ⟨manual, runs, rfl⟩
      · exact State.parkRefusal_of_auto auto
      · exact State.parkRefusal_of_feed_running manual runs
    refine State.take_reaches running (fun t => t.takePark sender o) fun t same => ?_
    rw [State.takePark_of_refused sender o refused] at same
    exact ⟨same.alarm .parkRefused, same⟩
  case parked =>
    intro s sender o running manual conveyor auger station
    obtain ⟨t, taken, same⟩ := exec_park_accepted sender o running manual conveyor auger
    rw [State.acceptPark_of_parked o (s.parked_iff.2 station)] at same
    exact ⟨t, taken, same⟩
  case entered =>
    intro s sender o running manual conveyor auger station
    have awake : ¬s.parked = true := by
      rw [State.parked_iff]
      rcases station with run | waking
      · simp [run]
      · simp [waking]
    obtain ⟨t, taken, same⟩ := exec_park_accepted sender o running manual conveyor auger
    rw [State.acceptPark_of_awake o awake] at same
    have frame := s.enterPark_frame o
    have parked : t.sup.station = if s.ring.collection.inFlight then .parkInquiry else .park :=
      same.station.trans (s.enterPark_station o)
    have level : t.level = s.level.cut s.now := same.level.trans (s.enterPark_level o)
    have rows : t.rows = (s.parkedAndCut o).parkRows.rows := same.rows
    have ring : t.ring = (s.parkedAndCut o).parkRows.ring := same.ring
    refine ⟨t, taken, parked, same.option.trans frame.option, same.wakingTimer.trans frame.wakingTimer,
      same.wakeOwed.trans frame.wakeOwed, same.outcome, ?side, ?coils,
      fun d => State.driveOutput_of_parked d (State.parked_of_station parked), ?scanner, ?silence, ?closed,
      same.heat.trans frame.heat, same.load.trans frame.load, same.feed.trans frame.feed,
      same.travel.trans frame.travel, same.settings.trans frame.settings, ?kept, ?discarded⟩
    case side =>
      rw [level]
      rfl
    case coils =>
      rw [level]
      exact Levelling.cut_energised _ s.now
    case scanner => rw [rows, State.parkRows_scannerOn]
    case silence => rw [rows, State.parkRows_silence]
    case closed =>
      rw [rows]
      exact State.parkRows_openRow (s.parkedAndCut_station_ne_run o)
    case kept =>
      intro r page found applied long swept room
      rw [ring]
      exact State.parkRows_commits (s := s.parkedAndCut o) found applied long swept room
    case discarded =>
      intro empty
      have left := State.parkRows_ring_of_discarded (s := s.parkedAndCut o) empty
      rw [ring, left]
      exact ⟨rfl, rfl⟩

end Sys2Proof.Machine
end

section
/-! PROOFS. What a step can do, said once: a command is a chain of acts, each of one block, from which every invariant is derived. -/

namespace Sys2Proof.Machine

/-! ## The acts of each block -/

/-- A send that succeeds, before its block is told of it: the error count cleared and the slot settled (R15, R17). -/
def State.settledSend (s : State) (k : StationKind) : State :=
  ({ s with line := s.line.cleared } : State).setSending
    { s.line.queue.set k ((s.line.queue.get k).settled s.line.queue.nextPosition) with
      nextPosition :=
        (s.line.queue.set k ((s.line.queue.get k).settled s.line.queue.nextPosition)).nextPosition + 1 } none

/-- What the Line Interface does, and what the supervisor does to say something: its offers, its event alarms, the last command
outcome and the cadence of STATUS (Chapter 1, R168, R170, R171). -/
inductive State.LineAct : State → State → Prop
  | received (s : State) (errors : Nat) (duplicate : Option Nat) (peers : Octet PeerEntry) (echoed : Bool) :
    LineAct s
      { s with
        line :=
          { s.line with receiveErrors := errors, duplicateTimer := duplicate, peers := peers, echoed := echoed } }
  | offer (s : State) (c : Content) : LineAct s (s.offer c)
  | offerStatus (s : State) : LineAct s s.offerStatus
  | begin (s : State) (running : s.phase = .running) : LineAct s s.beginBulletin
  | lose (s : State) (cls : Fin 8) (sender : Fin 16) (running : s.phase = .running) : LineAct s (s.loseContention cls sender)
  | settle (s : State) (k : StationKind) (running : s.phase = .running) (flies : s.line.queue.flying = some k) :
    LineAct s (s.settledSend k)
  | fail (s : State) (k : StationKind) (running : s.phase = .running) (flies : s.line.queue.flying = some k) :
    LineAct s (s.sendFailed k)
  | quietOver (s : State) : LineAct s s.quietOver
  | events (s : State) (e : EventAlarms) : LineAct s { s with sup := { s.sup with events := e } }
  | judged (s : State) (kind : CommandKind) (function : Option CommandFunction) (sender : Fin 16) (refused : Option Reason) :
    LineAct s (s.judged kind function sender refused)
  | cadence (s : State) (timer : Option Nat) : LineAct s { s with sup := { s.sup with cadence := timer } }

/-- What the Travel Unit makes of its record (Chapter 2). -/
inductive State.TravelNext (s : State) : Travel → Prop
  | cadence (timer : Option Nat) : TravelNext s { s.travel with cadence := timer }
  | pair (before after : Fin 4) (now : Nat) (encoder : s.straps.encoder = true) :
    TravelNext s (s.travel.pairChange before after now)
  | bin : TravelNext s s.travel.closeBin
  | stop (runs : s.travel.stopTimer.isSome = true) : TravelNext s (s.travel.enter .stopped)
  | follow (n : Fin 8) (c : TravelContent) (now : Nat) (follower : s.straps.encoder = false)
    (same : s.travel.source = .station n) : TravelNext s (s.travel.follow c now)
  | followRebase (n : Fin 8) (c : TravelContent) (follower : s.straps.encoder = false)
    (same : s.travel.source = .station n) : TravelNext s (s.travel.followRebase c)
  | change (n : Fin 8) (c : TravelContent) (now : Nat) (follower : s.straps.encoder = false) :
    TravelNext s ((s.travel.changeSource n).follow c now)
  | changeRebase (n : Fin 8) (c : TravelContent) (follower : s.straps.encoder = false) :
    TravelNext s ((s.travel.changeSource n).followRebase c)
  | lose (follower : s.straps.encoder = false) : TravelNext s s.travel.loseSource
  | rebase (c : Nat) (epoch : BitVec 8) :
    TravelNext s (({ s.travel with chainage := c, remainder := 0, epoch := epoch } : Travel).enter s.travel.restState)
  | page (f : TravelFields) : TravelNext s (s.travel.applyPage (.ofFields f))

/-- What an event of the Travel Unit does to its record and to the side (R34). -/
inductive State.TravelAct : State → State → Prop
  | travel (s : State) (t : Travel) (next : s.TravelNext t) : TravelAct s { s with travel := t }
  | toLevel (s : State) (before : Travel) : TravelAct s (s.travelToLevel before)

/-- What the Row Builder does, to the ring as well (Chapter 8, R153). -/
inductive State.RowAct : State → State → Prop
  | rows (s : State) (r : Rows) (scanner : r.scannerOn = true → s.rows.scannerOn = true)
    (row : r.openRow.isSome = true → s.rows.openRow.isSome = true) (page : r.page = s.rows.page) :
    RowAct s { s with rows := r }
  | commit (s : State) (row : Row) : RowAct s (s.commitRow row)
  | opens (s : State) : RowAct s s.tryOpenRow
  | page (s : State) : RowAct s s.applyRecordPage

/-- What the Heater Controller and the Load Share Unit do (Chapters 3 and 4). -/
inductive State.HeatAct : State → State → Prop
  | crossing (s : State) (rms : Nat) (peak : Quad Nat) : HeatAct s (s.takeCrossing rms peak)
  | supply (s : State) : HeatAct s s.supplyExpired
  | idle (s : State) : HeatAct s s.idleDemand
  | sample (s : State) (samples : Quad Reading) : HeatAct s (s.samplePlates samples)
  | current (s : State) (z : Fin 4) (current : Nat) : HeatAct s (s.watchCurrent z current)
  | judge (s : State) : HeatAct s (s.forZones fun t z => t.judgeZone z)
  | mode (s : State) (on : Bool) : HeatAct s (s.setHeatingMode on)
  | clear (s : State) : HeatAct s s.clearTrips
  | shedAll (s : State) : HeatAct s s.takeShedAll
  | restore (s : State) : HeatAct s s.takeRestore
  | demandSent (s : State) (c : DemandContent) : HeatAct s (s.demandSent c)
  | shedAckSent (s : State) : HeatAct s s.shedAckSent
  | told (s : State) (held : s.settings.heat.isSome = true) : HeatAct s s.tellHeat

/-- What the Levelling Controller does, but for what travel makes of the side (Chapter 5). -/
inductive State.LevelAct : State → State → Prop
  | reading (s : State) (sensor : LevellingSensor) (r : Reading) : LevelAct s (s.takeLevellingReading sensor r)
  | silent (s : State) (sensor : LevellingSensor) : LevelAct s (s.levellingSilent sensor)
  | period (s : State) : LevelAct s s.startPeriod
  | endPulse (s : State) : LevelAct s s.endPulse
  | endDeadTime (s : State) : LevelAct s s.endDeadTime
  | mode (s : State) (m : SideMode) (fitted : s.levelling = true) (run : isAuto m = true → s.sup.station = .run) :
    LevelAct s (s.setSideMode m)
  | jog (s : State) (d : Direction) (n : Nat) (fitted : s.levelling = true) :
    LevelAct s { s with level := s.level.jog d n s.now }
  | cadence (s : State) (timer : Option Nat) : LevelAct s { s with level := { s.level with cadence := timer } }
  | pending (s : State) : LevelAct s { s with level := { s.level with pending := true } }

/-- What the Feed Controller does (Chapter 7). -/
inductive State.FeedAct : State → State → Prop
  | reading (s : State) (sensor : FeedSensor) (r : Reading) : FeedAct s (s.takeFeedReading sensor r)
  | silent (s : State) (sensor : FeedSensor) : FeedAct s (s.feedSilent sensor)
  | mode (s : State) (d : Drive) (m : DriveMode) (n : Nat) (owner : s.owner = true) (awake : m = .off ∨ ¬s.parked = true) :
    FeedAct s { s with feed := s.feed.setDrive d ((s.feed.drive d).setMode m n) }
  | period (s : State) : FeedAct s s.controlDrives
  | holdOver (s : State) (d : Drive) (runs : (s.feed.drive d).holdTimer.isSome = true) :
    FeedAct s (s.setDrive d (s.feed.drive d).holdOver)
  | pulse (s : State) (d : Drive) : FeedAct s (s.takeSpeedPulse d)
  | captureOver (s : State) (d : Drive) : FeedAct s (s.setDrive d (s.feed.drive d).captureOver)
  | stall (s : State) (d : Drive) (runs : (s.feed.drive d).stallTimer.isSome = true) :
    FeedAct s (s.setDrive d (s.feed.drive d).stall)
  | cadence (s : State) (timer : Option Nat) : FeedAct s { s with feed := { s.feed with cadence := timer } }
  | pending (s : State) : FeedAct s { s with feed := { s.feed with pending := true } }

/-- What the station record does, with the collection that PARK-INQUIRY follows (Chapters 9 and 11). -/
inductive State.StationAct : State → State → Prop
  | park (s : State) (o : ParkOption) (manual : isAuto s.level.mode = false) (conveyor : s.feed.conveyor.mode = .off)
    (auger : s.feed.auger.mode = .off) (awake : ¬s.parked = true) : StationAct s (s.enterPark o)
  | option (s : State) (o : ParkOption) (parked : s.parked = true) :
    StationAct s { s with sup := { s.sup with option := some o, wakeOwed := false } }
  | wake (s : State) : StationAct s s.takeWake
  | awake (s : State) (runs : s.sup.wakingTimer.isSome = true) :
    StationAct s { s with sup := { s.sup with station := .run, wakingTimer := none } }
  | collect (s : State) (sender : Fin 16) (first : Word32) (count : Nat) :
    StationAct s (s.collectAndNotice sender first count)
  | collected (s : State) (o : CollectOutcome) :
    StationAct s ((s.collectEndSent o).noticeCollection s.ring.collection.inFlight)
  | recordSent (s : State) : StationAct s s.recordSent
  | release (s : State) (upto : Word32) : StationAct s (s.takeRelease upto)

/-- What the input pins, Station Identity's width and the Settings Store take (R3, R163, R166). -/
inductive State.StoreAct : State → State → Prop
  | pins (s : State) (p : Pins) : StoreAct s { s with pins := p }
  | width (s : State) (r : Reading) : StoreAct s (s.takeWidth r)
  | hold (s : State) (f : SettingsFields) : StoreAct s (s.holdPage f)
  | aged (s : State) (k : PageKind) : StoreAct s (s.pageAged k)

/-- The part as the release of a warm restart starts its timers, before the first report (R178). -/
def State.startedWarm (s : State) (cause : ResetCause) : State :=
  { s with
    phase := .running
    travel := s.travel.started s.straps s.now
    heat := s.heat.started s.now
    load := s.load.started s.now
    level := s.level.started s.straps s.now
    feed := s.feed.started s.straps s.now
    rows := s.rows.started s.straps s.now
    sup := { s.sup.started s.now with resetCause := cause } }

/-- What the two resets do (R178, R179). -/
inductive State.ResetAct : State → State → Prop
  | warm (s : State) (timer : Option Nat) (held : Bool) (cause : ResetCause) (running : s.phase = .running) :
    ResetAct s (s.assertWarm timer held cause)
  | prolong (s : State) (timer timer' : Option Nat) (held held' : Bool) (cause cause' : ResetCause)
    (warm : s.phase = .warm timer held cause) : ResetAct s { s with phase := .warm timer' held' cause' }
  | started (s : State) (timer : Option Nat) (held : Bool) (cause cause' : ResetCause)
    (warm : s.phase = .warm timer held cause) : ResetAct s (s.startedWarm cause')
  | powerOn (s : State) : ResetAct s s.assertPowerOn
  | poweredOn (s : State) (straps : BitVec 18) (since : Nat) (asserted : s.phase = .powerOn since) :
    ResetAct s { State.poweredOn straps s.pins s.now with pending := s.pending }

/-- One piece of work of one block, no reset being asserted or released. -/
inductive State.Work (s t : State) : Prop
  | line (act : s.LineAct t)
  | travel (act : s.TravelAct t)
  | row (act : s.RowAct t)
  | heat (act : s.HeatAct t)
  | level (act : s.LevelAct t)
  | feed (act : s.FeedAct t)
  | station (act : s.StationAct t)
  | store (act : s.StoreAct t)

/-- A chain of works. -/
abbrev State.Works : State → State → Prop := Relation.ReflTransGen State.Work

/-- A chain of acts of the Row Builder. -/
abbrev State.RowActs : State → State → Prop := Relation.ReflTransGen State.RowAct

/-- A work or an act of a reset. -/
inductive State.Act (s t : State) : Prop
  | work (work : s.Work t)
  | reset (act : s.ResetAct t)

/-- A chain of acts. -/
abbrev State.Acts : State → State → Prop := Relation.ReflTransGen State.Act

/-- What an event makes of a running part, before its report: works alone, or a reset asserted after them. -/
inductive State.Handles (s u : State) : Prop
  | works (chain : s.Works u)
  | restarts (v : State) (timer : Option Nat) (held : Bool) (cause : ResetCause) (chain : s.Works v) (running : v.phase = .running)
    (asserted : u = v.assertWarm timer held cause)
  | powersOn (asserted : u = s.assertPowerOn)

section
variable {s t u : State}

theorem State.LineAct.works (h : s.LineAct t) : s.Works t := .single (.line h)
theorem State.TravelAct.works (h : s.TravelAct t) : s.Works t := .single (.travel h)
theorem State.HeatAct.works (h : s.HeatAct t) : s.Works t := .single (.heat h)
theorem State.LevelAct.works (h : s.LevelAct t) : s.Works t := .single (.level h)
theorem State.FeedAct.works (h : s.FeedAct t) : s.Works t := .single (.feed h)
theorem State.StationAct.works (h : s.StationAct t) : s.Works t := .single (.station h)
theorem State.StoreAct.works (h : s.StoreAct t) : s.Works t := .single (.store h)
theorem State.ResetAct.acts (h : s.ResetAct t) : s.Acts t := .single (.reset h)

theorem State.RowActs.works (h : s.RowActs t) : s.Works t := by
  induction h with
  | refl => exact .refl
  | tail _ act ih => exact ih.tail (.row act)

theorem State.Works.acts (h : s.Works t) : s.Acts t := by
  induction h with
  | refl => exact .refl
  | tail _ work ih => exact ih.tail (.work work)

theorem State.Handles.acts (h : s.Handles t) : s.Acts t := by
  rcases h with chain | ⟨v, timer, held, cause, chain, running, rfl⟩ | rfl
  · exact chain.acts
  · exact (State.Works.acts chain).tail (.reset (.warm v timer held cause running))
  · exact (State.ResetAct.powerOn s).acts

/-- What every work keeps, a chain of works keeps. -/
theorem State.Works.keeps {P : State → Prop} (kept : ∀ s t : State, s.Work t → P s → P t) (chain : s.Works t) (h : P s) :
    P t := by
  induction chain with
  | refl => exact h
  | tail _ work ih => exact kept _ _ work ih

/-- What every act keeps, a chain of acts keeps. -/
theorem State.Acts.keeps {P : State → Prop} (kept : ∀ s t : State, s.Act t → P s → P t) (chain : s.Acts t) (h : P s) : P t := by
  induction chain with
  | refl => exact h
  | tail _ act ih => exact kept _ _ act ih

end

/-! ## The Row Builder's operations as chains -/

section
variable (s : State)

theorem State.endRow_acts : s.RowActs s.endRow :=
  ((Relation.ReflTransGen.single (.page s)).tail (.rows _ _ id (by simp) rfl)).tail (.opens _)

theorem State.judgeEdge_act (cold : Bool) : s.RowAct { s with rows := s.rows.judgeEdge cold } := by
  refine .rows s _ ?_ ?_ ?_ <;> unfold Rows.judgeEdge <;> split_ifs <;> simp

/-- After a row is handed to the ring its edge is judged, and the handling ends (R146, R147). -/
def State.edgeJudged (s : State) (cold : Bool) : State := ({ s with rows := s.rows.judgeEdge cold } : State).endRow

theorem State.closeKept_eq (r : OpenRow) (page : RecordPage) (cause : CloseCause) (length : Nat) :
    s.closeKept r page cause length =
      (s.commitRow (s.formRow r page cause length)).edgeJudged
        ((s.formRow r page cause length).edgeIsCold page.coldThreshold) := by
  unfold State.closeKept State.edgeJudged
  rfl

theorem State.edgeJudged_acts (cold : Bool) : s.RowActs (s.edgeJudged cold) :=
  .head (s.judgeEdge_act cold) (State.endRow_acts _)

theorem State.closeKept_acts (r : OpenRow) (page : RecordPage) (cause : CloseCause) (length : Nat) :
    s.RowActs (s.closeKept r page cause length) := by
  rw [State.closeKept_eq]
  exact .head (.commit s _) (State.edgeJudged_acts _ _)

theorem State.closeEarly_acts (r : OpenRow) (cause : CloseCause) : s.RowActs (s.closeEarly r cause) := by
  unfold State.closeEarly
  dsimp only
  split
  · split_ifs
    · exact s.endRow_acts
    · exact s.closeKept_acts _ _ _ _
  · exact s.endRow_acts

theorem State.closeAtEnd_acts : s.RowActs s.closeAtEnd := by
  unfold State.closeAtEnd
  split
  next r page _ _ =>
    split_ifs
    · exact .head (.rows s (s.rows.marked r.finish r.finish) id id rfl)
        (State.closeKept_acts { s with rows := s.rows.marked r.finish r.finish } r page .step (r.finish - r.start))
    · exact .refl
  · exact .refl

theorem State.parkRows_acts : s.RowActs s.parkRows := by
  cases found : s.rows.openRow with
  | none =>
    rw [State.parkRows_of_none found]
    exact .single (.rows s _ (by simp) id rfl)
  | some r =>
    rw [State.parkRows_of_open found]
    have marked : s.RowAct (s.markedForPark r) := .rows s _ id id rfl
    have closed := (s.markedForPark r).closeEarly_acts r .park
    generalize (s.markedForPark r).closeEarly r .park = u at closed ⊢
    exact .tail (.head marked closed) (.rows u _ (by simp) id rfl)

theorem State.handChainage_act : s.RowAct s.handChainage := .rows s _ id id rfl

/-- A rebase takes the marks of the row before, and the chainage stands as the new one's (R141). -/
theorem State.unmarked_acts :
    s.RowActs ({ s with rows := { s.rows with highWater := none, continuation := none } } : State).handChainage :=
  .head (.rows s { s.rows with highWater := none, continuation := none } id id rfl) (.single (State.handChainage_act _))

theorem State.rebaseRows_acts : s.RowActs s.rebaseRows := by
  unfold State.rebaseRows
  dsimp only
  split
  next r _ => exact .trans (s.closeEarly_acts r .rebase) (State.unmarked_acts _)
  · exact s.unmarked_acts

theorem State.chainageToRows_acts (before : Travel) (rebased : Bool) : s.RowActs (s.chainageToRows before rebased) := by
  unfold State.chainageToRows
  split_ifs
  · exact s.rebaseRows_acts
  · exact .refl
  · exact .head s.handChainage_act (State.closeAtEnd_acts _)

theorem State.markTravel_act : s.RowAct s.markTravel := .rows s _ id (by simp) rfl

theorem State.travelToRows_acts (before : Travel) (rebased : Bool) : s.RowActs (s.travelToRows before rebased) := by
  unfold State.travelToRows
  split_ifs
  · exact s.chainageToRows_acts _ _
  · exact .tail (.head s.markTravel_act (State.chainageToRows_acts _ _ _)) (.opens _)
  · exact .refl

theorem State.takeSweep_acts (good : Bool) (spots : List Int) : s.RowActs (s.takeSweep good spots) := by
  unfold State.takeSweep
  split_ifs with _ good
  · exact .single (.rows s { s.rows with silence := _, openRow := s.rows.openRow.map _ } id (by simp) rfl)
  · exact .single (.rows s { s.rows with openRow := s.rows.openRow.map _ } id (by simp) rfl)
  · exact .refl

end

/-! ## Each command's effect as a chain of works -/

section
variable {s : State}

theorem State.setTravel_works {t : Travel} (next : s.TravelNext t) (rebased : Bool) : s.Works (s.setTravel t rebased) :=
  .trans (.tail (State.TravelAct.travel s t next).works (.travel (.toLevel _ _))) (State.travelToRows_acts _ _ _).works

theorem State.raise_act (s : State) (e : EventAlarm) : s.LineAct (s.raise e) := .events s _

theorem State.setPeer_act (s : State) (n : Fin 8) (e : PeerEntry) : s.LineAct (s.setPeer n e) := .received s _ _ _ _

theorem State.encoderChanged_works (s : State) (pair : Fin 4) : s.Works (s.encoderChanged pair) := by
  unfold State.encoderChanged
  dsimp only
  have pinned := (State.StoreAct.pins s { s.pins with encoder := pair }).works
  split_ifs with encoder
  · exact .trans pinned (State.setTravel_works (s := { s with pins := { s.pins with encoder := pair } })
      (.pair _ _ _ encoder) false)
  · exact pinned

theorem State.reviewSource_works (s : State) (arrived : Option (Fin 8)) : s.Works (s.reviewSource arrived) := by
  unfold State.reviewSource
  cases follower : s.straps.encoder with
  | true => exact .refl
  | false =>
  rw [if_neg Bool.false_ne_true]
  split
  next n c _ =>
    split_ifs with same
    · unfold State.takeContent
      split_ifs
      · exact State.setTravel_works (.follow n c s.now follower same) _
      · exact State.setTravel_works (.followRebase n c follower same) _
    · exact .refl
    · unfold State.takeContent
      split_ifs
      · exact State.setTravel_works (.change n c s.now follower) _
      · exact State.setTravel_works (.changeRebase n c follower) _
  next =>
    split_ifs
    · exact .refl
    · exact State.setTravel_works (.lose follower) _

theorem State.takeModeHeating_works (s : State) (sender : Fin 16) (on : Bool) : s.Works (s.takeModeHeating sender on) := by
  unfold State.takeModeHeating
  split_ifs
  · exact (State.LineAct.judged s _ _ _ _).works
  · exact .tail (State.HeatAct.mode s on).works (.line (.judged _ _ _ _ _))

theorem State.takeClearHeating_works (s : State) (sender : Fin 16) : s.Works (s.takeClearHeating sender) := by
  unfold State.takeClearHeating
  split_ifs
  · exact (State.LineAct.judged s _ _ _ _).works
  · exact .tail (State.HeatAct.clear s).works (.line (.judged _ _ _ _ _))

/-- A side mode that is not refused: the station levels a side, and takes AUTO in RUN alone (R85). -/
theorem State.sideModeRefusal_none {m : SideMode} (h : s.sideModeRefusal m = none) :
    s.levelling = true ∧ (isAuto m = true → s.sup.station = .run) := by
  unfold State.sideModeRefusal State.unfittedTow at h
  cases fitted : s.levelling with
  | false => cases strap : s.straps.towStrap <;> simp [fitted, strap] at h
  | true =>
    refine ⟨rfl, fun auto => ?_⟩
    by_contra still
    simp [fitted, auto, State.parkedOrWaking, still] at h

theorem State.takeModeLevelling_works (s : State) (sender : Fin 16) (m : SideMode) : s.Works (s.takeModeLevelling sender m) := by
  unfold State.takeModeLevelling
  split
  · exact (State.LineAct.judged s _ _ _ _).works
  next accepted =>
    obtain ⟨fitted, run⟩ := State.sideModeRefusal_none accepted
    exact .tail (State.LevelAct.mode s m fitted run).works (.line (.judged _ _ _ _ _))

/-- A drive mode that is not refused: the station is a feed owner, and takes MANUAL and AUTO awake alone (R119). -/
theorem State.driveModeRefusal_none {m : DriveMode} (h : s.driveModeRefusal m = none) :
    s.owner = true ∧ (m = .off ∨ ¬s.parked = true) := by
  cases owner : s.owner with
  | false =>
    rw [State.driveModeRefusal_of_not_owner owner] at h
    cases h
  | true =>
    refine ⟨rfl, ?_⟩
    by_contra off
    rw [State.driveModeRefusal_of_parked owner (by tauto) (by tauto)] at h
    cases h

theorem State.takeModeDrive_works (s : State) (sender : Fin 16) (d : Drive) (m : DriveMode) (n : Nat) :
    s.Works (s.takeModeDrive sender d m n) := by
  unfold State.takeModeDrive
  split
  · exact (State.LineAct.judged s _ _ _ _).works
  next accepted =>
    obtain ⟨owner, awake⟩ := State.driveModeRefusal_none accepted
    exact .tail (State.FeedAct.mode s d m n owner awake).works (.line (.judged _ _ _ _ _))

theorem State.takeJog_works (s : State) (sender : Fin 16) (d : Direction) (n : Nat) : s.Works (s.takeJog sender d n) := by
  unfold State.takeJog
  split
  · exact (State.LineAct.judged s _ _ _ _).works
  next accepted =>
    have fitted : s.levelling = true := by
      by_contra unfitted
      rw [State.jogRefusal_of_unfitted (by simpa using unfitted)] at accepted
      cases accepted
    exact .tail (State.LevelAct.jog s d n fitted).works (.line (.judged _ _ _ _ _))

/-- A PARK that is not refused: no side is in AUTO and both drives are OFF (R174). -/
theorem State.parkRefusal_none (h : s.parkRefusal = none) :
    isAuto s.level.mode = false ∧ s.feed.conveyor.mode = .off ∧ s.feed.auger.mode = .off := by
  unfold State.parkRefusal at h
  split_ifs at h with auto runs
  simp only [Bool.or_eq_true, bne_iff_ne, ne_eq, not_or, not_not] at runs
  exact ⟨by simpa using auto, runs⟩

theorem State.takePark_works (s : State) (sender : Fin 16) (o : ParkOption) : s.Works (s.takePark sender o) := by
  unfold State.takePark
  split
  · exact .tail (s.raise_act .parkRefused).works (.line (.judged _ _ _ _ _))
  next accepted =>
    obtain ⟨manual, conveyor, auger⟩ := State.parkRefusal_none accepted
    refine .tail ?_ (.line (.judged _ _ _ _ _))
    unfold State.acceptPark
    split_ifs with parked
    · exact (State.StationAct.option s o parked).works
    · exact (State.StationAct.park s o manual conveyor auger parked).works

theorem State.tellRecord_acts (s : State) : s.RowActs s.tellRecord := by
  unfold State.tellRecord
  dsimp only
  have told : s.RowAct { s with rows := { s.rows with pending := true } } := .rows s _ id id rfl
  split_ifs
  · exact .single told
  · exact .tail (.tail (.single told) (.page _)) (.opens _)

theorem State.takeSettings_works (s : State) (f : SettingsFields) : s.Works (s.takeSettings f) := by
  have noted : s.Works ((s.holdPage f).noteClamp f) := by
    refine .trans (State.StoreAct.hold s f).works ?_
    unfold State.noteClamp
    split_ifs
    · exact (State.raise_act _ _).works
    · exact .refl
  refine .trans noted ?_
  unfold State.takeSettings State.tellConsumer
  cases f with
  | heat f =>
    refine (State.HeatAct.told _ ?_).works
    unfold State.noteClamp
    split_ifs <;> rfl
  | level f =>
    dsimp only
    split_ifs
    · exact (State.LevelAct.pending _).works
    · exact .refl
  | feed f =>
    dsimp only
    split_ifs
    · exact (State.FeedAct.pending _).works
    · exact .refl
  | record f => exact (State.tellRecord_acts _).works
  | travel f => exact State.setTravel_works (.page f) false

/-- A command of the line is a chain of works, but for RESTART, which asserts a warm restart. -/
theorem State.takeCommand_works (s : State) (sender : Fin 16) (c : LineCommand) :
    s.Works (s.takeCommand sender c) ∨ s.takeCommand sender c = s.takeRestart := by
  cases c with
  | modeHeating on => exact .inl (s.takeModeHeating_works sender on)
  | modeLevelling m => exact .inl (s.takeModeLevelling_works sender m)
  | modeDrive d m n => exact .inl (s.takeModeDrive_works sender d m n)
  | jog d n => exact .inl (s.takeJog_works sender d n)
  | park o => exact .inl (s.takePark_works sender o)
  | wake => exact .inl (State.StationAct.wake s).works
  | clearHeating => exact .inl (s.takeClearHeating_works sender)
  | rebase value => exact .inl (State.setTravel_works (.rebase _ _) true)
  | restart => exact .inr rfl
  | shedAll => exact .inl (State.HeatAct.shedAll s).works
  | restore => exact .inl (State.HeatAct.restore s).works
  | settings f => exact .inl (s.takeSettings_works f)
  | collect first count => exact .inl (State.StationAct.collect s sender first count).works
  | release upto => exact .inl (State.StationAct.release s upto).works

theorem State.arriveFromStation_works (s : State) (n : Fin 8) (b : Bulletin) : s.Works (s.arriveFromStation n b) := by
  unfold State.arriveFromStation
  split_ifs
  · split
    · unfold State.enterPeer
      dsimp only
      split_ifs
      · exact .trans (State.setPeer_act _ _ _).works (State.reviewSource_works _ _)
      · exact (State.setPeer_act _ _ _).works
    · exact .refl
  · exact .refl

theorem State.receive_handles (running : s.phase = .running) (bytes : List Byte) : s.Handles (s.receive bytes) := by
  unfold State.receive
  split
  · exact .works (State.LineAct.received s _ _ _ _).works
  next b _ =>
    have echoed := (State.LineAct.received s s.line.receiveErrors s.line.duplicateTimer s.line.peers true).works
    unfold State.arrive
    split_ifs
    · exact .works (.trans echoed (State.LineAct.received _ _ _ _ _).works)
    · exact .works (.trans echoed (State.arriveFromStation_works _ _ b))
    · unfold State.arriveFromConsole
      split_ifs
      · split
        next c _ =>
          rcases State.takeCommand_works { s with line := { s.line with echoed := true } } b.sender c with works | restarts
          · exact .works (.trans echoed works)
          · exact .restarts _ _ _ _ echoed running restarts
        · exact .works echoed
      · exact .works echoed

theorem State.reportSent_works (s : State) (c : Content) : s.Works (s.reportSent c) := by
  cases c with
  | travel c => exact .refl
  | height c => exact .refl
  | demand c => exact (State.HeatAct.demandSent s c).works
  | level c => exact .refl
  | status c formed => exact (State.LineAct.events s _).works
  | shedAck c => exact (State.HeatAct.shedAckSent s).works
  | record c => exact (State.StationAct.recordSent s).works
  | collectEnd c => exact (State.StationAct.collected s _).works

theorem State.completeSend_works (running : s.phase = .running) (r : SendResult) : s.Works (s.completeSend r) := by
  unfold State.completeSend
  split
  · exact .refl
  next k flies =>
    refine .trans (State.LineAct.settle s k running flies).works ?_
    unfold State.sendSucceeded
    dsimp only
    split
    · exact State.reportSent_works _ _
    · exact .refl
  next k flies => exact (State.LineAct.fail s k running flies).works
  next k flies => exact (State.LineAct.fail s k running flies).works

theorem State.peerAged_works (s : State) (n : Fin 8) (k : PeerKind) : s.Works (s.peerAged n k) := by
  unfold State.peerAged
  dsimp only
  split_ifs
  · exact .trans (State.setPeer_act _ _ _).works (State.reviewSource_works _ _)
  · exact (State.setPeer_act _ _ _).works
  · exact .refl

theorem State.leakageChanged_works (s : State) (active : Bool) : s.Works (s.leakageChanged active) := by
  unfold State.leakageChanged
  dsimp only
  have pinned := (State.StoreAct.pins s { s.pins with leakage := active }).works
  split_ifs
  · exact .tail pinned (.heat (.judge _))
  · exact pinned

theorem State.offerTravel_works (s : State) : s.Works s.offerTravel := by
  unfold State.offerTravel
  dsimp only
  have timed := (State.TravelAct.travel s _ (.cadence (nextPeriod s.travel.cadence Config.travelCadence))).works
  split_ifs
  · exact .tail timed (.line (.offer _ _))
  · exact timed

theorem State.offerHeight_works (s : State) : s.Works s.offerHeight := by
  unfold State.offerHeight
  dsimp only
  have timed := (State.LevelAct.cadence s (nextPeriod s.level.cadence Config.heightCadence)).works
  split_ifs
  · exact .tail timed (.line (.offer _ _))
  · exact timed

theorem State.offerLevel_works (s : State) : s.Works s.offerLevel := by
  unfold State.offerLevel
  dsimp only
  have timed := (State.FeedAct.cadence s (nextPeriod s.feed.cadence Config.levelCadence)).works
  split_ifs
  · exact .tail timed (.line (.offer _ _))
  · exact timed

theorem State.statusDue_works (s : State) : s.Works s.statusDue :=
  .tail (State.LineAct.cadence s _).works (.line (.offerStatus _))

theorem State.firstReport_works (s : State) : s.Works s.firstReport :=
  .tail (State.HeatAct.judge s).works (.line (.offerStatus _))

theorem State.wakingOver_works (runs : s.sup.wakingTimer.isSome = true) : s.Works s.wakingOver :=
  .tail (State.StationAct.awake s runs).works (.row (.opens _))

theorem State.scannerSilent_acts (s : State) : s.RowActs s.scannerSilent := .single (.rows s _ id (by simp) rfl)

theorem State.reported_works (before after : State) : after.Works (State.reported before after) := by
  unfold State.reported
  split_ifs
  · exact (State.LineAct.offerStatus after).works
  · exact .refl

end

/-! ## What a command does to a running part -/

/-- A running part takes a command: nothing happens, or an event is taken whole and reported (R16, R171). -/
def State.Takes (s : State) (o : Host.Outcome State Fault Refusal) : Prop :=
  o = .next s ∨ ∃ u, s.Handles u ∧ o = .next (State.reported s u)

section
variable {s : State} (running : s.phase = .running)
include running

theorem State.take_handles {effect : State → State} (handles : s.Handles (effect s)) : s.Takes (.next (s.take effect)) :=
  .inr ⟨effect s, handles, by rw [State.take_of_running running]⟩

theorem State.take_takes {effect : State → State} (works : s.Works (effect s)) : s.Takes (.next (s.take effect)) :=
  State.take_handles running (.works works)

theorem State.takeExpiry_takes {timer : Option Nat} {effect : State → State}
    (works : timer.isSome = true → s.Works (effect s)) : s.Takes (.next (s.takeExpiry timer effect)) := by
  unfold State.takeExpiry
  split_ifs with came
  · obtain ⟨d, rfl, -⟩ := (due_iff timer s.now).1 came
    exact State.take_takes running (works rfl)
  · exact .inl rfl

omit running in
/-- A reset asserted at a running part is reported by nothing (R178). -/
theorem State.halts_takes {u : State} (handles : s.Handles u) (halted : u.phase ≠ .running) : s.Takes (.next u) :=
  .inr ⟨u, handles, by simp [State.reported, halted]⟩

/-- Every command at a running part is an event taken whole, or none. -/
theorem exec_takes (c : Instr) : s.Takes (exec c s) := by
  cases c with
  | bulletinBegin => exact State.take_takes running (State.LineAct.begin s running).works
  | contentionLost cls sender => exact State.take_takes running (State.LineAct.lose s cls sender running).works
  | sendComplete r => exact State.take_takes running (State.completeSend_works running r)
  | quietTimerExpiry => exact State.takeExpiry_takes running fun _ => (State.LineAct.quietOver s).works
  | bulletinReceived bytes => exact State.take_handles running (State.receive_handles running bytes)
  | duplicateTimerExpiry => exact State.takeExpiry_takes running fun _ => (State.LineAct.received s _ _ _ _).works
  | peerSlotStale n k => exact State.take_takes running (s.peerAged_works n k)
  | travelCadence => exact State.takeExpiry_takes running fun _ => s.offerTravel_works
  | heightCadence => exact State.takeExpiry_takes running fun _ => s.offerHeight_works
  | levelCadence => exact State.takeExpiry_takes running fun _ => s.offerLevel_works
  | statusCadence => exact State.takeExpiry_takes running fun _ => s.statusDue_works
  | encoderChange pair =>
    simp only [exec, execEncoderChange, running, beq_self_eq_true, if_true]
    exact State.take_takes running (s.encoderChanged_works pair)
  | speedTimerExpiry => exact State.takeExpiry_takes running fun _ => (State.TravelAct.travel s _ .bin).works
  | stopTimerExpiry => exact State.takeExpiry_takes running fun runs => State.setTravel_works (.stop runs) false
  | rebase value => exact State.take_takes running (State.setTravel_works (.rebase _ _) true)
  | zeroCrossing rms peak => exact State.take_takes running (State.HeatAct.crossing s rms peak).works
  | supplyTimerExpiry => exact State.takeExpiry_takes running fun _ => (State.HeatAct.supply s).works
  | idleDemandTimerExpiry => exact State.takeExpiry_takes running fun _ => (State.HeatAct.idle s).works
  | heatSensorTimerExpiry samples =>
    exact State.takeExpiry_takes running fun _ => (State.HeatAct.sample s samples).works
  | zoneOvercurrent z current => exact State.take_takes running (State.HeatAct.current s z current).works
  | leakageInputActive active =>
    simp only [exec, execLeakageInputActive, running, beq_self_eq_true, if_true]
    exact State.take_takes running (s.leakageChanged_works active)
  | modeHeating sender on => exact State.take_takes running (s.takeModeHeating_works sender on)
  | clearHeating sender => exact State.take_takes running (s.takeClearHeating_works sender)
  | shedAll => exact State.take_takes running (State.HeatAct.shedAll s).works
  | restore => exact State.take_takes running (State.HeatAct.restore s).works
  | gradeSlopeReading sensor r => exact State.take_takes running (State.LevelAct.reading s sensor r).works
  | gradeSlopeSilenceExpiry sensor => exact State.takeExpiry_takes running fun _ => (State.LevelAct.silent s sensor).works
  | periodStart => exact State.takeExpiry_takes running fun _ => (State.LevelAct.period s).works
  | pulseEnd => exact State.takeExpiry_takes running fun _ => (State.LevelAct.endPulse s).works
  | deadTimeExpiry => exact State.takeExpiry_takes running fun _ => (State.LevelAct.endDeadTime s).works
  | modeLevelling sender m => exact State.take_takes running (s.takeModeLevelling_works sender m)
  | jog sender d n => exact State.take_takes running (s.takeJog_works sender d n)
  | modeConveyorAuger sender d m n => exact State.take_takes running (s.takeModeDrive_works sender d m n)
  | feedLevelReading sensor r => exact State.take_takes running (State.FeedAct.reading s sensor r).works
  | feedSensorSilenceExpiry sensor => exact State.takeExpiry_takes running fun _ => (State.FeedAct.silent s sensor).works
  | controlPeriod => exact State.takeExpiry_takes running fun _ => (State.FeedAct.period s).works
  | holdTimerExpiry d => exact State.takeExpiry_takes running fun runs => (State.FeedAct.holdOver s d runs).works
  | driveSpeedPulse d => exact State.take_takes running (State.FeedAct.pulse s d).works
  | speedCaptureTimeout d => exact State.takeExpiry_takes running fun _ => (State.FeedAct.captureOver s d).works
  | stallTimerExpiry d => exact State.takeExpiry_takes running fun runs => (State.FeedAct.stall s d runs).works
  | widthReading r => exact State.take_takes running (State.StoreAct.width s r).works
  | sweep good spots => exact State.take_takes running (s.takeSweep_acts good spots).works
  | scannerSilenceExpiry => exact State.takeExpiry_takes running fun _ => s.scannerSilent_acts.works
  | collect sender first count => exact State.take_takes running (State.StationAct.collect s sender first count).works
  | release upto => exact State.take_takes running (State.StationAct.release s upto).works
  | settings f => exact State.take_takes running (s.takeSettings_works f)
  | pageAgeExpiry k => exact State.take_takes running (State.StoreAct.aged s k).works
  | park sender o => exact State.take_takes running (s.takePark_works sender o)
  | wake => exact State.take_takes running (State.StationAct.wake s).works
  | wakingTimerExpiry => exact State.takeExpiry_takes running State.wakingOver_works
  | restart => exact State.take_handles running (.restarts s _ _ _ .refl running rfl)
  | restartTimerExpiry => exact .inl (by simp [exec, execRestartTimerExpiry, State.restartTimeOver, running])
  | restartPinActive =>
    simp only [exec, execRestartPinActive, State.restartPinOn_of_running running]
    exact State.halts_takes (.restarts s none true .restartPin .refl running rfl) (by simp [State.assertWarm])
  | restartPinInactive => exact .inl (by simp [exec, execRestartPinInactive, State.restartPinOff, running])
  | powerOnResetAssert =>
    exact State.halts_takes (.powersOn rfl) (by simp [State.assertPowerOn])
  | powerOnResetRelease straps =>
    exact .inl (by simp [exec, execPowerOnResetRelease, State.releasePowerOn, running])

end

/-! ## What a command does while a reset is asserted -/

/-- The five commands of the resets themselves. -/
def Instr.OfReset (c : Instr) : Prop :=
  c = .restartTimerExpiry ∨ c = .restartPinActive ∨ c = .restartPinInactive ∨ c = .powerOnResetAssert ∨
    ∃ straps, c = .powerOnResetRelease straps

/-- A command that is not the resets' own moves the input pins at most (R178, R179). -/
theorem exec_halted {s : State} {c : Instr} (halted : s.phase ≠ .running) (other : ¬Instr.OfReset c) :
    ∃ t, exec c s = .next t ∧ t = { s with pins := t.pins } := by
  have takes (effect : State → State) : s.take effect = s := State.take_of_not_running halted effect
  have expires (timer : Option Nat) (effect : State → State) : s.takeExpiry timer effect = s := by
    unfold State.takeExpiry
    split_ifs
    · exact takes effect
    · rfl
  have reset : ¬(s.phase == Phase.running) = true := by simpa using halted
  cases c with
  | encoderChange pair => exact ⟨_, congrArg Host.Outcome.next (if_neg reset), rfl⟩
  | leakageInputActive active => exact ⟨_, congrArg Host.Outcome.next (if_neg reset), rfl⟩
  | restartTimerExpiry => exact absurd (.inl rfl) other
  | restartPinActive => exact absurd (.inr (.inl rfl)) other
  | restartPinInactive => exact absurd (.inr (.inr (.inl rfl))) other
  | powerOnResetAssert => exact absurd (.inr (.inr (.inr (.inl rfl)))) other
  | powerOnResetRelease straps => exact absurd (.inr (.inr (.inr (.inr ⟨straps, rfl⟩)))) other
  | speedTimerExpiry | stopTimerExpiry | quietTimerExpiry | duplicateTimerExpiry | travelCadence | heightCadence | levelCadence
  | statusCadence | supplyTimerExpiry | idleDemandTimerExpiry | heatSensorTimerExpiry | gradeSlopeSilenceExpiry | periodStart
  | pulseEnd | deadTimeExpiry | feedSensorSilenceExpiry | controlPeriod | holdTimerExpiry | speedCaptureTimeout
  | stallTimerExpiry | scannerSilenceExpiry | wakingTimerExpiry => exact ⟨s, congrArg Host.Outcome.next (expires _ _), rfl⟩
  | _ => exact ⟨s, congrArg Host.Outcome.next (takes _), rfl⟩

theorem State.releaseWarm_acts {s : State} {timer : Option Nat} {held : Bool} {cause : ResetCause}
    (warm : s.phase = .warm timer held cause) (cause' : ResetCause) : s.Acts (s.releaseWarm cause') :=
  .trans (State.ResetAct.started s timer held cause cause' warm).acts ((State.firstReport_works _).acts)

theorem State.restartTimeOver_acts (s : State) : s.Acts s.restartTimeOver := by
  unfold State.restartTimeOver
  split
  next warm =>
    split_ifs
    · exact (State.ResetAct.prolong s _ _ _ _ _ _ warm).acts
    · exact State.releaseWarm_acts warm _
    · exact .refl
  · exact .refl

theorem State.restartPinOn_acts (s : State) : s.Acts s.restartPinOn := by
  unfold State.restartPinOn
  split
  next running => exact (State.ResetAct.warm s _ _ _ running).acts
  next warm => exact (State.ResetAct.prolong s _ _ _ _ _ _ warm).acts
  · exact .refl

theorem State.restartPinOff_acts (s : State) : s.Acts s.restartPinOff := by
  unfold State.restartPinOff
  split
  next warm => exact State.releaseWarm_acts warm _
  next warm => exact (State.ResetAct.prolong s _ _ _ _ _ _ warm).acts
  · exact .refl

theorem State.releasePowerOn_acts (s : State) (straps : BitVec 18) : s.Acts (s.releasePowerOn straps) := by
  unfold State.releasePowerOn
  split
  next since asserted =>
    split_ifs
    · exact .trans (State.ResetAct.poweredOn s straps since asserted).acts ((State.firstReport_works _).acts)
    · exact .refl
  · exact .refl

/-! ## What a step does -/

/-- Every command completes, as a chain of acts. -/
theorem exec_acts (c : Instr) (s : State) : ∃ t, exec c s = .next t ∧ s.Acts t := by
  by_cases running : s.phase = .running
  · rcases exec_takes running c with still | ⟨u, handles, taken⟩
    · exact ⟨s, still, .refl⟩
    · exact ⟨_, taken, handles.acts.trans (State.reported_works s u).acts⟩
  · by_cases own : Instr.OfReset c
    · rcases own with rfl | rfl | rfl | rfl | ⟨straps, rfl⟩
      · exact ⟨_, rfl, s.restartTimeOver_acts⟩
      · exact ⟨_, rfl, s.restartPinOn_acts⟩
      · exact ⟨_, rfl, s.restartPinOff_acts⟩
      · exact ⟨_, rfl, (State.ResetAct.powerOn s).acts⟩
      · exact ⟨_, rfl, s.releasePowerOn_acts straps⟩
    · obtain ⟨t, taken, pins⟩ := exec_halted running own
      refine ⟨t, taken, ?_⟩
      rw [pins]
      exact (State.StoreAct.pins s t.pins).works.acts

/-- An invariant: what a change of clock and queue leaves, and every act keeps, every step keeps. -/
theorem step_keeps {P : State → Prop} (clock : ∀ (s : State) (now : Nat) (pending : List Instr), P s →
      P { s with now := now, pending := pending })
    (kept : ∀ s t : State, s.Act t → P s → P t) {s t : State} (h : P s) (stepped : step s = .next t) : P t := by
  unfold step at stepped
  split at stepped
  · cases stepped
    exact clock s _ _ h
  next c rest _ =>
    obtain ⟨u, taken, acts⟩ := exec_acts c { s with pending := rest }
    cases taken.symm.trans stepped
    exact acts.keeps kept (clock s s.now rest h)

end Sys2Proof.Machine
end

section
/-! PROOFS. The frame of every act: which blocks it can touch, and that none but the Line Interface's own puts a slot in flight. -/

namespace Sys2Proof.Machine

/-! ## The slots in flight -/

/-- The same slots are in flight in both queues. -/
def TxQueue.SameFlights (q r : TxQueue) : Prop := ∀ k, (r.get k).isInFlight = (q.get k).isInFlight

theorem TxQueue.SameFlights.refl (q : TxQueue) : q.SameFlights q := fun _ => rfl

theorem TxQueue.SameFlights.trans {q r u : TxQueue} (h : q.SameFlights r) (k : r.SameFlights u) : q.SameFlights u :=
  fun kind => (k kind).trans (h kind)

theorem TxQueue.SameFlights.flying {q r : TxQueue} (h : q.SameFlights r) : r.flying = q.flying :=
  congrArg StationKind.list.find? (funext h)

theorem TxQueue.SameFlights.only {q r : TxQueue} (h : q.SameFlights r) {k : StationKind} (only : q.OnlyFlying k) :
    r.OnlyFlying k := fun other differs => (h other).trans (only other differs)

theorem TxSlot.offered_isInFlight (slot : TxSlot) (c : Content) (p : Nat) :
    (slot.offered c p).isInFlight = slot.isInFlight := by
  cases slot <;> rfl

theorem TxQueue.offer_sameFlights (q : TxQueue) (c : Content) : q.SameFlights (q.offer c) := by
  intro k
  unfold TxQueue.offer
  rw [TxQueue.get_nextPosition, TxQueue.get_set]
  split_ifs with same
  · rw [TxSlot.offered_isInFlight, same]
  · rfl

theorem TxQueue.flying_eq_some {q : TxQueue} {k : StationKind} (h : q.flying = some k) : (q.get k).isInFlight = true :=
  List.find?_some (p := fun k => (q.get k).isInFlight) h

theorem TxQueue.not_flying {q : TxQueue} (h : q.flying = none) (k : StationKind) : (q.get k).isInFlight = false := by
  cases flies : (q.get k).isInFlight with
  | false => rfl
  | true => exact absurd h (TxQueue.flying_ne_none flies)

/-- With the one slot in flight brought down, none flies. -/
theorem TxQueue.OnlyFlying.set_down {q : TxQueue} {k : StationKind} {slot : TxSlot} (only : q.OnlyFlying k)
    (down : slot.isInFlight = false) (other : StationKind) : ((q.set k slot).get other).isInFlight = false := by
  rw [TxQueue.get_set]
  split_ifs with same
  · exact down
  · exact only other same

/-! ## The pieces of a heat event -/

/-- One piece of what an event of the Heater Controller and the Load Share Unit does. -/
inductive State.HeatPiece : State → State → Prop
  | heat (s : State) (h : Heat) (page : h.page = s.heat.page) : HeatPiece s { s with heat := h }
  | apply (s : State) (h : Heat) (held : Held HeatPage) (holds : s.settings.heat = some held)
    (page : h.page = some held.page) : HeatPiece s (State.askStatus { s with heat := h })
  | load (s : State) (l : Load) : HeatPiece s { s with load := l }
  | offer (s : State) (c : Content) : HeatPiece s (s.offer c)
  | note (s : State) : HeatPiece s s.noteTrip

/-- A chain of such pieces. -/
abbrev State.HeatPieces : State → State → Prop := Relation.ReflTransGen State.HeatPiece

theorem State.HeatPieces.keeps {P : State → Prop} {s t : State} (kept : ∀ s t : State, s.HeatPiece t → P s → P t)
    (chain : s.HeatPieces t) (h : P s) : P t := by
  induction chain with
  | refl => exact h
  | tail _ piece ih => exact kept _ _ piece ih

section
variable (s : State)

theorem State.mapZones_piece (f : Fin 4 → Zone → Zone) : s.HeatPiece (s.mapZones f) := .heat s _ rfl

theorem State.setZone_piece (z : Fin 4) (r : Zone) : s.HeatPiece (s.setZone z r) := .heat s _ rfl

theorem State.tripZone_pieces (z : Fin 4) (c : TripCause) : s.HeatPieces (s.tripZone z c) :=
  .head (s.setZone_piece z _) (.single (.note _))

theorem State.judgeZone_pieces (z : Fin 4) : s.HeatPieces (s.judgeZone z) := by
  unfold State.judgeZone
  split_ifs
  · split
    · exact s.tripZone_pieces _ _
    · exact .refl
  · exact .refl

theorem State.clearZone_pieces (z : Fin 4) : s.HeatPieces (s.clearZone z) := by
  unfold State.clearZone
  split
  · split_ifs
    · exact .head (s.setZone_piece _ _) (State.judgeZone_pieces _ _)
    · exact .refl
  · exact .refl

theorem State.judgeOpen_pieces (z : Fin 4) : s.HeatPieces (s.judgeOpen z) := by
  unfold State.judgeOpen
  dsimp only
  split_ifs
  · exact .single (s.setZone_piece _ _)
  · exact s.tripZone_pieces _ _
  · exact .single (s.setZone_piece _ _)
  · exact .refl

/-- An operation made of pieces, done on each zone in turn, is made of pieces. -/
theorem State.forZones_pieces {f : State → Fin 4 → State} (h : ∀ t z, State.HeatPieces t (f t z)) :
    s.HeatPieces (s.forZones f) :=
  (((h s 0).trans (h _ 1)).trans (h _ 2)).trans (h _ 3)

theorem State.clearTrips_pieces : s.HeatPieces s.clearTrips := s.forZones_pieces fun t z => t.clearZone_pieces z

theorem State.applyHeatPage_pieces : s.HeatPieces s.applyHeatPage := by
  unfold State.applyHeatPage
  split_ifs
  · split
    next held holds => exact .single (.apply s _ held holds rfl)
    · exact .refl
  · exact .refl

theorem State.offerShedAck_pieces : s.HeatPieces s.offerShedAck := .head (.load s _) (.single (.offer _ _))

theorem State.settleShed_pieces : s.HeatPieces s.settleShed := by
  unfold State.settleShed
  dsimp only
  split
  · split_ifs
    · exact .head (.load s _) (State.offerShedAck_pieces _)
    · exact .single (.load s _)
  · exact .single (.load s _)
  · exact .single (.load s _)
  · exact .refl

theorem State.takeShare_pieces : s.HeatPieces s.takeShare := by
  unfold State.takeShare
  by_cases none : s.straps.fitted = 0
  · rw [if_pos none]
    exact .single (.load s _)
  · rw [if_neg none]
    exact .head (.load s _) (.single (.offer _ _))

theorem State.setSlot_pieces (slot : Nat) :
    s.HeatPieces (State.setOutputs { s with heat := { s.heat with slot := slot } }) :=
  .head (.heat s { s.heat with slot := slot } rfl) (.single (State.mapZones_piece _ _))

theorem State.loadWindow_pieces : s.HeatPieces s.loadWindow := .head (s.mapZones_piece _) (State.setSlot_pieces _ 0)

theorem State.rotate_pieces : s.HeatPieces s.rotate := by
  unfold State.rotate
  split_ifs
  · exact .single (.heat s _ rfl)
  · exact .refl

theorem State.beginWindow_pieces : s.HeatPieces s.beginWindow :=
  ((((s.applyHeatPage_pieces.trans (State.settleShed_pieces _)).tail (State.mapZones_piece _ _)).trans
    (State.takeShare_pieces _)).trans (State.loadWindow_pieces _)).trans (State.rotate_pieces _)

theorem State.judgeWindow_pieces (rms : Nat) : s.HeatPieces (s.judgeWindow rms) := by
  refine (s.forZones_pieces fun t z => t.judgeOpen_pieces z).trans ?_
  unfold State.judgeWindow State.judgeSag
  split
  · exact .single (.load _ _)
  · exact .refl

theorem State.timeCrossing_piece : s.HeatPiece s.timeCrossing := .heat s _ rfl

theorem State.takeCrossing_pieces (rms : Nat) (peak : Quad Nat) : s.HeatPieces (s.takeCrossing rms peak) := by
  refine .tail ?_ (State.timeCrossing_piece _)
  split_ifs
  · unfold State.crossRunning
    dsimp only
    split_ifs
    · exact .head (s.mapZones_piece _) (State.setSlot_pieces (s.senseSlot peak) _)
    · exact .head (s.mapZones_piece _) ((State.judgeWindow_pieces _ _).trans (State.beginWindow_pieces _))
  · unfold State.crossWaiting
    split_ifs
    · exact .head (.heat s { s.heat with supply := .running, runCount := 0 } rfl)
        (.head (.load _ _) (State.beginWindow_pieces _))
    · exact .single (.heat s _ rfl)

theorem State.loadNoSupply_pieces : s.HeatPieces s.loadNoSupply := by
  unfold State.loadNoSupply
  dsimp only
  split
  · exact .head (.load s _) (.head (.load _ _) (State.offerShedAck_pieces _))
  · exact .single (.load s _)
  · exact .single (.load s _)
  · exact .single (.load s _)

theorem State.loseSupply_pieces : s.HeatPieces s.loseSupply := by
  unfold State.loseSupply
  dsimp only
  refine .trans ?_ ((State.applyHeatPage_pieces _).trans (State.loadNoSupply_pieces _))
  split_ifs
  · exact .head (s.mapZones_piece _) (.single (.heat _ _ rfl))
  · exact .single (.heat s _ rfl)

theorem State.HeatAct.pieces {s t : State} (act : s.HeatAct t) : s.HeatPieces t := by
  cases act with
  | crossing rms peak => exact s.takeCrossing_pieces rms peak
  | supply =>
    unfold State.supplyExpired
    split_ifs
    · exact .single (.heat s _ rfl)
    · exact s.loseSupply_pieces
  | idle =>
    unfold State.idleDemand
    dsimp only
    split_ifs
    · exact .single (.load s _)
    · exact .head (.load s _) (.single (.offer _ _))
  | sample samples =>
    refine .head (.heat s { s.heat with sensorTimer := s.heat.sensorTimer.map (· + Config.heatSensorPeriod) } rfl)
      (State.forZones_pieces _ fun t z => ?_)
    split_ifs
    · exact .head (t.setZone_piece _ _) (State.judgeZone_pieces _ _)
    · exact .refl
  | current z current =>
    unfold State.watchCurrent
    split_ifs
    · exact s.tripZone_pieces _ _
    · exact .refl
  | judge => exact s.forZones_pieces fun t z => t.judgeZone_pieces z
  | mode on =>
    unfold State.setHeatingMode
    dsimp only
    split_ifs
    · exact .refl
    · exact .head (.heat s { s.heat with mode := on } rfl) (State.clearTrips_pieces _)
    · exact .head (.heat s { s.heat with mode := on } rfl) (.single (State.mapZones_piece _ _))
  | clear => exact s.clearTrips_pieces
  | shedAll =>
    unfold State.takeShedAll
    split
    · split_ifs
      · exact .single (.load s _)
      · exact .head (.load s _) (State.offerShedAck_pieces _)
    · split
      · exact s.offerShedAck_pieces
      · exact s.offerShedAck_pieces
      · exact .refl
    · exact .single (.load s _)
    · exact .head (.load s _) (State.offerShedAck_pieces _)
    · exact .refl
  | restore =>
    unfold State.takeRestore
    split
    · exact .single (.load s _)
    · exact .refl
  | demandSent c =>
    unfold State.demandSent
    split_ifs
    · exact s.offerShedAck_pieces
    · exact .refl
  | shedAckSent =>
    unfold State.shedAckSent
    split_ifs
    · exact .single (.load s _)
    · exact .refl
  | told held =>
    unfold State.tellHeat
    dsimp only
    have marked := State.HeatPiece.heat s { s.heat with pending := true } rfl
    split_ifs
    · exact .single marked
    · exact .head marked (State.applyHeatPage_pieces _)

end

/-! ## The frame of each block's acts -/

theorem State.HeatPieces.frame {s t : State} (chain : s.HeatPieces t) : State.HeatFrame s t := by
  induction chain with
  | refl => exact .refl s
  | tail _ piece ih => exact ih.trans (by cases piece <;> rfl)

theorem State.HeatAct.frame {s t : State} (act : s.HeatAct t) : State.HeatFrame s t := act.pieces.frame

theorem State.RowAct.frame {s t : State} (act : s.RowAct t) : State.RowFrame s t := by
  cases act with
  | rows r scanner row page => rfl
  | commit row => exact s.commitRow_frame row
  | opens => exact s.tryOpenRow_frame
  | page => exact s.applyRecordPage_frame

theorem State.LevelAct.frame {s t : State} (act : s.LevelAct t) : State.LevelFrame s t := by
  cases act with
  | reading sensor r => exact s.takeLevellingReading_frame sensor r
  | silent sensor => cases sensor <;> rfl
  | period => exact s.startPeriod_frame
  | mode m fitted run => exact s.setSideMode_frame m
  | _ => rfl

theorem State.setDrive_frame (s : State) (d : Drive) (r : DriveRecord) : State.FeedFrame s (s.setDrive d r) := rfl

theorem State.FeedAct.frame {s t : State} (act : s.FeedAct t) : State.FeedFrame s t := by
  cases act with
  | reading sensor r =>
    unfold State.takeFeedReading
    split_ifs
    · rfl
    · rfl
  | period => exact s.controlDrives_frame
  | holdOver d runs => exact s.setDrive_frame _ _
  | pulse d =>
    unfold State.takeSpeedPulse
    split_ifs
    · exact s.setDrive_frame _ _
    · rfl
  | captureOver d => exact s.setDrive_frame _ _
  | stall d runs => exact s.setDrive_frame _ _
  | _ => rfl

/-- Travel, the side, the rows and the ring, and the supervisor's marks differ at most. -/
theorem State.TravelAct.frame {s t : State} (act : s.TravelAct t) : State.TravelFrame s t := by
  cases act with
  | travel u next => exact .travel s u
  | toLevel before => exact (s.travelToLevel_frame before).toTravelFrame

/-- Of the part's records only the line's and the supervisor's differ: its marks, its event alarms, the last outcome, its cadence. -/
def State.LineFrame (s t : State) : Prop :=
  t =
    { s with
      line := t.line
      sup :=
        { s.sup with
          outcome := t.sup.outcome, serial := t.sup.serial, events := t.sup.events, formed := t.sup.formed
          cadence := t.sup.cadence, offerDue := t.sup.offerDue } }

theorem State.countFailure_frame (s : State) : State.LineFrame s s.countFailure := by
  unfold State.countFailure
  split_ifs <;> rfl

theorem State.LineAct.frame {s t : State} (act : s.LineAct t) : State.LineFrame s t := by
  cases act with
  | begin =>
    unfold State.beginBulletin
    split
    · split <;> rfl
    · rfl
  | lose cls sender =>
    unfold State.loseContention
    split
    · split_ifs <;> rfl
    · rfl
  | fail k =>
    have counted := (s.setSending (s.line.queue.set k (s.line.queue.get k).returned) none).countFailure_frame
    unfold State.LineFrame at *
    exact counted
  | _ => rfl

/-! ## The collection and the station record -/

/-- One piece of what the Record Ring does for a collection. -/
inductive State.CollectPiece : State → State → Prop
  | record (s : State) (c : Collection) : CollectPiece s (s.setCollection c)
  | offer (s : State) (c : Content) : CollectPiece s (s.offer c)

abbrev State.CollectPieces : State → State → Prop := Relation.ReflTransGen State.CollectPiece

section
variable (s : State)

theorem State.offerAnswer_pieces : s.CollectPieces s.offerAnswer := by
  unfold State.offerAnswer
  dsimp only
  split_ifs
  · exact .refl
  · split
    · exact .head (.record s _) (.single (.offer _ _))
    · exact .head (.record s _) (.single (.offer _ _))
    · exact .refl

/-- A collection record set, and the answer it owes offered. -/
theorem State.answered_pieces (c : Collection) : s.CollectPieces (s.setCollection c).offerAnswer :=
  .head (.record s c) (State.offerAnswer_pieces _)

theorem State.offerNextRecord_pieces : s.CollectPieces s.offerNextRecord := by
  unfold State.offerNextRecord
  dsimp only
  split
  · split_ifs
    · exact s.answered_pieces _
    · split
      · exact s.answered_pieces _
      · exact .head (.record s _) (.single (.offer _ _))
  · exact .refl

theorem State.takeCollect_pieces (sender : Fin 16) (first : Word32) (count : Nat) :
    s.CollectPieces (s.takeCollect sender first count) := by
  unfold State.takeCollect
  dsimp only
  split_ifs
  · exact s.answered_pieces _
  · split
    · exact .head (.record s _) (State.offerNextRecord_pieces _)
    · exact s.answered_pieces _

theorem State.recordSent_pieces : s.CollectPieces s.recordSent := by
  unfold State.recordSent
  dsimp only
  split_ifs
  · exact .head (.record s _) (State.offerNextRecord_pieces _)
  · exact .refl

theorem State.collectEndSent_pieces (outcome : CollectOutcome) : s.CollectPieces (s.collectEndSent outcome) := by
  unfold State.collectEndSent
  dsimp only
  split_ifs <;> exact s.answered_pieces _

end

/-- Of the line the queue alone, and of the supervisor the station state and its marks; the side, the rows and the ring. -/
def State.StationFrame (s t : State) : Prop :=
  t =
    { s with
      line := { s.line with queue := t.line.queue }, level := t.level, rows := t.rows, ring := t.ring
      sup :=
        { s.sup with
          station := t.sup.station, option := t.sup.option, wakingTimer := t.sup.wakingTimer, wakeOwed := t.sup.wakeOwed
          events := t.sup.events, offerDue := t.sup.offerDue } }

theorem State.StationFrame.refl (s : State) : State.StationFrame s s := rfl

theorem State.StationFrame.trans {s t u : State} (h : State.StationFrame s t) (k : State.StationFrame t u) :
    State.StationFrame s u := by
  unfold State.StationFrame at *
  rw [h] at k
  exact k

theorem State.RowFrame.toStationFrame {s t : State} (h : State.RowFrame s t) : State.StationFrame s t := by
  unfold State.RowFrame at h
  rw [h]
  rfl

theorem State.CollectFrame.toStationFrame {s t : State} (h : State.CollectFrame s t) : State.StationFrame s t := by
  unfold State.CollectFrame at h
  rw [h]
  rfl

theorem State.startWaking_frame (s : State) : State.StationFrame s s.startWaking := by
  refine State.StationFrame.trans ?_ (State.wakeRows_frame _).toStationFrame
  rfl

/-- What the notice of the collection's state makes of the part: nothing, or the move between PARK and PARK-INQUIRY, with the wake
that is owed (R176). -/
theorem State.noticeCollection_cases (s : State) (before : Bool) :
    (s.noticeCollection before = s ∧
        (s.ring.collection.inFlight = before ∨
          ¬(s.sup.station = .park ∧ before = false) ∧ ¬(s.sup.station = .parkInquiry ∧ before = true))) ∨
      (s.noticeCollection before = { s with sup := { s.sup with station := .parkInquiry } } ∧ s.sup.station = .park ∧
        s.ring.collection.inFlight = true) ∨
      (s.noticeCollection before = { s with sup := { s.sup with station := .park } } ∧ s.sup.station = .parkInquiry ∧
        s.ring.collection.inFlight = false ∧ s.sup.wakeOwed = false) ∨
      (s.noticeCollection before = State.startWaking { s with sup := { s.sup with station := .park } } ∧
        s.sup.station = .parkInquiry ∧ s.ring.collection.inFlight = false ∧ s.sup.wakeOwed = true) := by
  unfold State.noticeCollection
  cases flight : s.ring.collection.inFlight <;> cases before <;> cases station : s.sup.station <;>
    cases owed : s.sup.wakeOwed <;> simp

theorem State.noticeCollection_frame (s : State) (before : Bool) : State.StationFrame s (s.noticeCollection before) := by
  have waking : State.StationFrame s (State.startWaking { s with sup := { s.sup with station := .park } }) :=
    State.StationFrame.trans (t := { s with sup := { s.sup with station := .park } }) rfl (State.startWaking_frame _)
  rcases s.noticeCollection_cases before with ⟨same, -⟩ | ⟨inquiry, -⟩ | ⟨park, -⟩ | ⟨wakes, -⟩
  · rw [same]; exact .refl s
  · rw [inquiry]; rfl
  · rw [park]; rfl
  · rw [wakes]; exact waking

theorem State.StationAct.frame {s t : State} (act : s.StationAct t) : State.StationFrame s t := by
  cases act with
  | park o => exact State.StationFrame.trans (t := s.parkedAndCut o) rfl (s.enterPark_frame o).toStationFrame
  | wake =>
    unfold State.takeWake
    split
    · exact s.startWaking_frame
    all_goals rfl
  | collect sender first count =>
    exact (s.takeCollect_frame sender first count).toStationFrame.trans (State.noticeCollection_frame _ _)
  | collected o => exact (s.collectEndSent_frame o).toStationFrame.trans (State.noticeCollection_frame _ _)
  | recordSent => exact s.recordSent_frame.toStationFrame
  | _ => rfl

/-! ## The stores -/

/-- Only the input pins, the width and the Settings Store differ. -/
def State.StoreFrame (s t : State) : Prop :=
  t = { s with pins := t.pins, identity := { s.identity with width := t.identity.width }, settings := t.settings }

theorem State.StoreAct.frame {s t : State} (act : s.StoreAct t) : State.StoreFrame s t := by
  cases act with
  | pins p => rfl
  | width r =>
    unfold State.takeWidth
    split_ifs
    · split <;> rfl
    · rfl
  | hold f => cases f <;> rfl
  | aged k => cases k <;> rfl

/-! ## What a work leaves of the line -/

/-- The line is as it was but for its queue, in which the same slots are in flight, and the part's phase is the same. -/
structure State.LineQuiet (s t : State) : Prop where
  phase : t.phase = s.phase
  line : t.line = { s.line with queue := t.line.queue }
  flights : s.line.queue.SameFlights t.line.queue

theorem State.LineQuiet.refl (s : State) : s.LineQuiet s := ⟨rfl, rfl, .refl _⟩

theorem State.LineQuiet.trans {s t u : State} (h : s.LineQuiet t) (k : t.LineQuiet u) : s.LineQuiet u where
  phase := k.phase.trans h.phase
  line := by
    have step := k.line
    rw [h.line] at step
    exact step
  flights := h.flights.trans k.flights

theorem State.LineQuiet.of_same {s t : State} (phase : t.phase = s.phase) (line : t.line = s.line) : s.LineQuiet t :=
  ⟨phase, by rw [line], by rw [line]; exact .refl _⟩

theorem State.offer_lineQuiet (s : State) (c : Content) : s.LineQuiet (s.offer c) :=
  ⟨rfl, rfl, s.line.queue.offer_sameFlights c⟩

theorem State.HeatPieces.lineQuiet {s t : State} (chain : s.HeatPieces t) : s.LineQuiet t := by
  refine State.HeatPieces.keeps (P := s.LineQuiet) (fun u v piece quiet => quiet.trans ?_) chain (.refl s)
  cases piece with
  | offer c => exact u.offer_lineQuiet c
  | _ => exact .of_same rfl rfl

theorem State.CollectPieces.lineQuiet {s t : State} (chain : s.CollectPieces t) : s.LineQuiet t := by
  induction chain with
  | refl => exact .refl s
  | tail _ piece ih =>
    refine ih.trans ?_
    cases piece with
    | record c => exact .of_same rfl rfl
    | offer c => exact State.offer_lineQuiet _ c

theorem State.startWaking_lineQuiet (s : State) : s.LineQuiet s.startWaking := by
  unfold State.startWaking State.wakeRows
  split_ifs <;> exact .of_same rfl rfl

theorem State.noticeCollection_lineQuiet (s : State) (before : Bool) : s.LineQuiet (s.noticeCollection before) := by
  rcases s.noticeCollection_cases before with ⟨same, -⟩ | ⟨inquiry, -⟩ | ⟨park, -⟩ | ⟨wakes, -⟩
  · rw [same]; exact .refl s
  · rw [inquiry]; exact .of_same rfl rfl
  · rw [park]; exact .of_same rfl rfl
  · rw [wakes]
    exact .trans (t := { s with sup := { s.sup with station := .park } }) (.of_same rfl rfl) (State.startWaking_lineQuiet _)

theorem State.StationAct.lineQuiet {s t : State} (act : s.StationAct t) : s.LineQuiet t := by
  cases act with
  | collect sender first count =>
    exact (State.CollectPieces.lineQuiet (s.takeCollect_pieces sender first count)).trans
      (State.noticeCollection_lineQuiet _ _)
  | collected o =>
    exact (State.CollectPieces.lineQuiet (s.collectEndSent_pieces o)).trans (State.noticeCollection_lineQuiet _ _)
  | recordSent => exact State.CollectPieces.lineQuiet s.recordSent_pieces
  | park o =>
    have frame := s.enterPark_frame o
    exact .of_same (by rw [frame]; rfl) (by rw [frame]; rfl)
  | wake =>
    unfold State.takeWake
    split
    · exact s.startWaking_lineQuiet
    all_goals exact .of_same rfl rfl
  | _ => exact .of_same rfl rfl

/-- A work is the Line Interface's own, or leaves the line quiet. -/
theorem State.Work.line_or_quiet {s t : State} (work : s.Work t) : s.LineAct t ∨ s.LineQuiet t := by
  cases work with
  | line act => exact .inl act
  | travel act => exact .inr (.of_same (by rw [act.frame]) (by rw [act.frame]))
  | row act => exact .inr (.of_same (by rw [act.frame]) (by rw [act.frame]))
  | heat act => exact .inr (State.HeatPieces.lineQuiet act.pieces)
  | level act => exact .inr (.of_same (by rw [act.frame]) (by rw [act.frame]))
  | feed act => exact .inr (.of_same (by rw [act.frame]) (by rw [act.frame]))
  | station act => exact .inr act.lineQuiet
  | store act => exact .inr (.of_same (by rw [act.frame]) (by rw [act.frame]))

end Sys2Proof.Machine
end

section
/-! PROOFS. What every act keeps of the clock and the queue of commands, what STATUS offers each event owes, and the laws of the line
(R13 to R18, R178). -/

namespace Sys2Proof.Machine

/-! ## The clock and the queue of commands -/

theorem State.Work.clock {s t : State} (work : s.Work t) : t.pending = s.pending ∧ t.now = s.now := by
  cases work with
  | line act => exact ⟨by rw [act.frame], by rw [act.frame]⟩
  | travel act => exact ⟨by rw [act.frame], by rw [act.frame]⟩
  | row act => exact ⟨by rw [act.frame], by rw [act.frame]⟩
  | heat act => exact ⟨by rw [act.frame], by rw [act.frame]⟩
  | level act => exact ⟨by rw [act.frame], by rw [act.frame]⟩
  | feed act => exact ⟨by rw [act.frame], by rw [act.frame]⟩
  | station act => exact ⟨by rw [act.frame], by rw [act.frame]⟩
  | store act => exact ⟨by rw [act.frame], by rw [act.frame]⟩

theorem State.Act.clock {s t : State} (act : s.Act t) : t.pending = s.pending ∧ t.now = s.now := by
  cases act with
  | work work => exact work.clock
  | reset act => cases act <;> exact ⟨rfl, rfl⟩

/-- Settles O1: the step function reads the front of the queue. -/
theorem stepRunsFrontCommand : Obligations.StepRunsFrontCommand := by
  unfold Obligations.StepRunsFrontCommand
  intro s c rest front
  simp [step, front]

/-- Settles O2: a command is a chain of acts, each of which keeps the clock and the queue. -/
theorem commandsKeepQueueAndClock : Obligations.CommandsKeepQueueAndClock := by
  unfold Obligations.CommandsKeepQueueAndClock
  constructor
  · intro c s
    obtain ⟨t, taken, acts⟩ := exec_acts c s
    have kept := acts.keeps (P := fun u => u.pending = s.pending ∧ u.now = s.now)
      (fun u v act h => ⟨act.clock.1.trans h.1, act.clock.2.trans h.2⟩) ⟨rfl, rfl⟩
    exact ⟨t, taken, kept⟩
  · intro s empty
    exact ⟨s.tick, by simp [step, empty], rfl⟩

/-! ## The STATUS offers -/

/-- Settles O3: an event that changes a state STATUS carries ends with the offer of the new state, which changes none of them. -/
theorem changesAreReported : Obligations.ChangesAreReported := by
  unfold Obligations.ChangesAreReported
  intro c s t running taken still changed
  rcases exec_takes running c with idle | ⟨u, -, event⟩
  · cases idle.symm.trans taken
    exact absurd rfl changed
  · cases event.symm.trans taken
    have same := State.reported_sameButStatus s u
    rw [same.statusStates] at changed
    rw [same.phase] at still
    rw [same.formStatus]
    exact ⟨_, State.reported_newest still (.inr changed)⟩

/-! ## The laws of the line -/

section
variable {s t : State}

theorem State.LineQuiet.lineSound (quiet : s.LineQuiet t) (sound : s.LineSound) : t.LineSound := by
  obtain ⟨bound, errors, timer, grounded, only, running, warm⟩ := sound
  unfold State.LineSound
  rw [quiet.phase, quiet.flights.flying, quiet.line]
  refine ⟨bound, errors, timer, grounded, fun k flies => ?_, running, warm⟩
  exact quiet.flights.only (only k ((quiet.flights k).symm.trans flies))

/-- The one slot in flight brought down, and nothing driven, whatever becomes of the error count in SPEAKING. -/
theorem State.LineSound.landed (sound : s.LineSound) {k : StationKind} (flies : s.line.queue.flying = some k)
    (running : s.phase = .running) (down : ∀ other, (t.line.queue.get other).isInFlight = false)
    (silent : t.line.sending = none) (phase : t.phase = s.phase)
    (counts : s.line.state = .speaking → t.line.errors ≤ Config.quietErrors ∧
      (t.line.state = .quiet ↔ t.line.errors = Config.quietErrors) ∧
      (t.line.state = .quiet ↔ t.line.quietTimer.isSome = true)) : t.LineSound := by
  obtain ⟨-, -, -, grounded, -, -, -⟩ := sound
  have landed := TxQueue.flying_eq_none down
  have speaking : s.line.state = .speaking := by
    cases state : s.line.state with
    | speaking => rfl
    | quiet => rw [grounded state] at flies; cases flies
  obtain ⟨bound, errors, timer⟩ := counts speaking
  refine ⟨bound, errors, timer, fun _ => landed, fun k flies' => ?_, fun _ => ?_, fun _ _ _ warm => ?_⟩
  · rw [down k] at flies'; cases flies'
  · simp [silent, landed]
  · rw [phase, running] at warm; cases warm

/-- Beginning a bulletin puts the one slot in flight (R6, R13). -/
theorem State.LineSound.begun (sound : s.LineSound) (running : s.phase = .running) : s.beginBulletin.LineSound := by
  unfold State.beginBulletin
  split
  next k speaking free choice =>
    split
    next c p waits =>
      obtain ⟨bound, errors, timer, grounded, only, sends, warm⟩ := sound
      have flies : ((s.line.queue.set k (.inFlight c p none)).get k).isInFlight = true := by
        rw [TxQueue.get_set, if_pos rfl]; rfl
      have alone : (s.line.queue.set k (.inFlight c p none)).OnlyFlying k := fun other differs => by
        rw [TxQueue.get_set, if_neg differs]
        exact TxQueue.not_flying free other
      refine ⟨bound, errors, timer, fun quiet => ?_, fun other flies' => ?_, fun _ => ?_, fun _ _ _ warm => ?_⟩
      · rw [State.setSending, speaking] at quiet; cases quiet
      · by_cases same : other = k
        · rw [same]; exact alone
        · rw [State.setSending, alone other same] at flies'; cases flies'
      · simp [State.setSending, TxQueue.flying_of_only flies alone]
      · rw [State.setSending, running] at warm; cases warm
    · exact sound
  · exact sound

theorem State.LineSound.only (sound : s.LineSound) {k : StationKind} (flies : s.line.queue.flying = some k) :
    s.line.queue.OnlyFlying k := by
  obtain ⟨-, -, -, -, only, -, -⟩ := sound
  exact only k (TxQueue.flying_eq_some flies)

theorem TxSlot.returned_isInFlight (slot : TxSlot) : slot.returned.isInFlight = false := by
  cases slot <;> rfl

theorem TxSlot.settled_isInFlight (slot : TxSlot) (p : Nat) : (slot.settled p).isInFlight = false := by
  rcases slot with _ | _ | ⟨c, q, _ | f⟩ <;> rfl

/-- The line error count after a failure: one higher, or 32 in QUIET with the quiet timer running (R17, R18). -/
theorem State.countFailure_counts (timer : s.line.state = .quiet ↔ s.line.quietTimer.isSome = true)
    (speaking : s.line.state = .speaking) :
    s.countFailure.line.errors ≤ Config.quietErrors ∧
      (s.countFailure.line.state = .quiet ↔ s.countFailure.line.errors = Config.quietErrors) ∧
      (s.countFailure.line.state = .quiet ↔ s.countFailure.line.quietTimer.isSome = true) := by
  have stopped : s.line.quietTimer = none := by simpa [speaking] using timer
  unfold State.countFailure
  split_ifs with _ high
  · simp [State.raise]
  · simp only [speaking, stopped]
    refine ⟨by omega, ?_, by simp⟩
    simp only [reduceCtorEq, false_iff]
    omega
  · simp [speaking] at *

theorem State.countFailure_rest (s : State) :
    s.countFailure.line.queue = s.line.queue ∧ s.countFailure.line.sending = s.line.sending ∧
      s.countFailure.phase = s.phase := by
  unfold State.countFailure
  split_ifs <;> exact ⟨rfl, rfl, rfl⟩

/-- A failed send brings its slot down and counts (R15, R17). -/
theorem State.LineSound.failed (sound : s.LineSound) {k : StationKind} (running : s.phase = .running)
    (flies : s.line.queue.flying = some k) : (s.sendFailed k).LineSound := by
  obtain ⟨-, -, timer, -⟩ := id sound
  obtain ⟨queue, sending, phase⟩ :=
    (s.setSending (s.line.queue.set k (s.line.queue.get k).returned) none).countFailure_rest
  refine sound.landed flies running (fun other => ?_) sending phase
    (State.countFailure_counts (s := s.setSending (s.line.queue.set k (s.line.queue.get k).returned) none) timer)
  rw [State.sendFailed, queue]
  exact TxQueue.OnlyFlying.set_down (sound.only flies) (TxSlot.returned_isInFlight _) other

theorem State.LineAct.lineSound (act : s.LineAct t) (sound : s.LineSound) : t.LineSound := by
  cases act with
  | offer c => exact (s.offer_lineQuiet c).lineSound sound
  | offerStatus => exact State.LineQuiet.lineSound (s := s) ⟨rfl, rfl, s.line.queue.offer_sameFlights _⟩ sound
  | begin running => exact sound.begun running
  | lose cls sender running =>
    unfold State.loseContention
    split
    next k flies =>
      split_ifs
      · exact sound
      · obtain ⟨bound, errors, timer, -⟩ := id sound
        exact sound.landed flies running (TxQueue.OnlyFlying.set_down (sound.only flies) (TxSlot.returned_isInFlight _))
          rfl rfl fun _ => ⟨bound, errors, timer⟩
    · exact sound
  | settle k running flies =>
    obtain ⟨bound, errors, timer, -⟩ := id sound
    refine sound.landed flies running (fun other => ?_) rfl rfl fun speaking => ?_
    · have down := TxQueue.OnlyFlying.set_down (sound.only flies)
        (TxSlot.settled_isInFlight (s.line.queue.get k) s.line.queue.nextPosition) other
      rw [← down]
      exact congrArg TxSlot.isInFlight (TxQueue.get_nextPosition _ _ _)
    · have stopped : s.line.quietTimer = none := by simpa [speaking] using timer
      simp [State.settledSend, State.setSending, Line.cleared, speaking, stopped, Config.quietErrors]
  | fail k running flies => exact sound.failed running flies
  | quietOver =>
    obtain ⟨-, -, -, -, only, running, warm⟩ := sound
    exact ⟨Nat.zero_le _, by simp [State.quietOver, Config.quietErrors], by simp [State.quietOver],
      by simp [State.quietOver], only, running, warm⟩
  | _ => exact sound

/-- A line that neither drives nor holds a slot in flight, with no error and no quiet timer, as a reset leaves it. -/
theorem State.LineSound.of_idle (speaking : t.line.state = .speaking) (errors : t.line.errors = 0)
    (timer : t.line.quietTimer = none) (silent : t.line.sending = none)
    (down : ∀ k, (t.line.queue.get k).isInFlight = false) : t.LineSound := by
  have landed := TxQueue.flying_eq_none down
  refine ⟨by simp [errors], by simp [speaking, errors, Config.quietErrors], by simp [speaking, timer], fun _ => landed,
    fun k flies => ?_, by simp [silent, landed], fun _ _ _ _ => ⟨silent, landed⟩⟩
  rw [down k] at flies
  cases flies

theorem TxQueue.atReset_down (k : StationKind) : (Line.atReset.queue.get k).isInFlight = false := by
  cases k <;> rfl

theorem State.ResetAct.lineSound (act : s.ResetAct t) (sound : s.LineSound) : t.LineSound := by
  cases act with
  | warm timer held cause running => exact .of_idle rfl rfl rfl rfl TxQueue.atReset_down
  | prolong timer timer' held held' cause cause' warm =>
    obtain ⟨bound, errors, quiet, grounded, only, -, silent⟩ := sound
    exact ⟨bound, errors, quiet, grounded, only, nofun, fun _ _ _ _ => silent timer held cause warm⟩
  | started timer held cause cause' warm =>
    obtain ⟨bound, errors, quiet, grounded, only, -, silent⟩ := sound
    obtain ⟨silent, landed⟩ := silent timer held cause warm
    exact ⟨bound, errors, quiet, grounded, only, fun _ => by simp [State.startedWarm, silent, landed], nofun⟩
  | powerOn =>
    obtain ⟨bound, errors, quiet, grounded, only, -, -⟩ := sound
    exact ⟨bound, errors, quiet, grounded, only, nofun, nofun⟩
  | poweredOn straps since asserted => exact .of_idle rfl rfl rfl rfl TxQueue.atReset_down

theorem State.Act.lineSound (act : s.Act t) (sound : s.LineSound) : t.LineSound := by
  cases act with
  | work work =>
    rcases work.line_or_quiet with act | quiet
    · exact act.lineSound sound
    · exact quiet.lineSound sound
  | reset act => exact act.lineSound sound

end

/-- Settles O52: the Line Interface's own acts bring at most one slot in flight and drive bytes for it alone, and every other act
leaves the slots in flight, the error count and the quiet timer as they are. -/
theorem stepKeepsLineSound : Obligations.StepKeepsLineSound := by
  unfold Obligations.StepKeepsLineSound
  intro s t sound stepped
  exact step_keeps (P := State.LineSound) (fun _ _ _ sound => sound) (fun _ _ act => act.lineSound) sound stepped

end Sys2Proof.Machine
end

section
/-! PROOFS. The laws of the travel record (Sections 2.1, 2.3, 2.4 and 2.5). -/

namespace Sys2Proof.Machine

/-! ## The laws of the travel record, block by block -/

/-- The stop timer runs exactly in PAVING, and an uncalibrated record is STOPPED at its chainage with speed 0 (R26, R28, R29). -/
structure Travel.StateLaw (t : Travel) : Prop where
  timer : t.stopTimer.isSome = true ↔ t.state = .paving
  uncalibrated : t.page = none → t.state = .stopped ∧ t.mark = t.chainage ∧ t.speed = 0

/-- The remainder is below P, and a quadrature position is short of a pulse (R23, R26). -/
structure Travel.CountLaw (t : Travel) : Prop where
  remainder : ∀ p, t.page = some p → t.remainder < p.pulsesPerMetre ∧ 100 ≤ p.pulsesPerMetre
  steps : -4 < t.steps ∧ t.steps < 4

/-- LOST exactly while calibrated without a source (R32). -/
def Travel.LostLaw (t : Travel) : Prop := t.state = .lost ↔ t.page.isSome = true ∧ t.source = .none

/-- The laws of the travel record of a station (Chapter 2). -/
structure Travel.Lawful (t : Travel) (encoder : Bool) : Prop where
  state : t.StateLaw
  count : t.CountLaw
  lost : t.LostLaw
  own : t.source = .own ↔ encoder = true

theorem State.travelSound_iff (s : State) : s.TravelSound ↔ s.travel.Lawful s.straps.encoder :=
  ⟨fun ⟨timer, uncalibrated, remainder, lost, own, low, high⟩ => ⟨⟨timer, uncalibrated⟩, ⟨remainder, low, high⟩, lost, own⟩,
    fun ⟨⟨timer, uncalibrated⟩, ⟨remainder, low, high⟩, lost, own⟩ =>
      ⟨timer, uncalibrated, remainder, lost, own, low, high⟩⟩

/-! ## A change of chainage -/

section
variable {t : Travel}

/-- A change of chainage touches the chainage, the state, the mark and the stop timer. -/
theorem Travel.moveTo_frame (t : Travel) (c now : Nat) :
    t.moveTo c now =
      { t with
        chainage := (t.moveTo c now).chainage, state := (t.moveTo c now).state, mark := (t.moveTo c now).mark
        stopTimer := (t.moveTo c now).stopTimer } := by
  unfold Travel.moveTo
  split_ifs
  · rfl
  · unfold Travel.testState Travel.enterPaving Travel.enter
    dsimp only
    split <;> (try split_ifs) <;> rfl
  · rfl

theorem Travel.ruled_timer (law : t.StateLaw) (c stop : Nat) (rises : Bool) :
    (t.ruled c stop rises).2.2.isSome = true ↔ (t.ruled c stop rises).1 = .paving := by
  have timer := law.timer
  unfold Travel.ruled
  cases state : t.state <;> rw [state] at timer <;> dsimp only <;> (try split_ifs) <;> simp_all

theorem Travel.ruled_lost (t : Travel) (c stop : Nat) (rises : Bool) :
    (t.ruled c stop rises).1 = .lost ↔ t.state = .lost := by
  unfold Travel.ruled
  cases t.state <;> dsimp only <;> (try split_ifs) <;> simp

theorem Travel.StateLaw.moveTo (law : t.StateLaw) (c now : Nat) : (t.moveTo c now).StateLaw := by
  by_cases still : c = t.chainage
  · rw [Travel.moveTo, if_pos still]
    exact law
  · cases calibrated : t.page with
    | none =>
      have moved : t.moveTo c now = ({ t with chainage := c } : Travel).enter .stopped := by
        simp [Travel.moveTo, still, calibrated]
      rw [moved]
      exact ⟨by simp [Travel.enter], fun _ => ⟨rfl, rfl, (law.uncalibrated calibrated).2.2⟩⟩
    | some page =>
      rw [Travel.moveTo_eq_ruled calibrated still]
      exact ⟨Travel.ruled_timer law _ _ _, fun absent => by cases calibrated.symm.trans absent⟩

theorem Travel.moveTo_lost (law : t.StateLaw) (c now : Nat) : (t.moveTo c now).state = .lost ↔ t.state = .lost := by
  by_cases still : c = t.chainage
  · rw [Travel.moveTo, if_pos still]
  · cases calibrated : t.page with
    | none =>
      have moved : t.moveTo c now = ({ t with chainage := c } : Travel).enter .stopped := by
        simp [Travel.moveTo, still, calibrated]
      simp [moved, Travel.enter, (law.uncalibrated calibrated).1]
    | some page =>
      rw [Travel.moveTo_eq_ruled calibrated still]
      exact Travel.ruled_lost _ _ _ _

theorem Travel.Lawful.moveTo {encoder : Bool} (lawful : t.Lawful encoder) (c now : Nat) : (t.moveTo c now).Lawful encoder := by
  have frame := t.moveTo_frame c now
  refine ⟨lawful.state.moveTo c now, ?_, ?_, ?_⟩
  · rw [frame]; exact ⟨lawful.count.remainder, lawful.count.steps⟩
  · unfold Travel.LostLaw
    rw [Travel.moveTo_lost lawful.state, frame]
    exact lawful.lost
  · rw [frame]; exact lawful.own

/-! ## The encoder -/

theorem forwardPulse_below {m c p : Nat} (below : m < p) (atLeast : 100 ≤ p) : (forwardPulse m c p).1 < p := by
  rw [forwardPulse_eq]
  split_ifs <;> dsimp only <;> omega

theorem backwardPulse_below {m c p : Nat} (below : m < p) (atLeast : 100 ≤ p) : (backwardPulse m c p).1 < p := by
  unfold backwardPulse
  split_ifs <;> dsimp only <;> omega

/-- The bins, the remainder below P, the quadrature position, the timers of the block and the speed rest on no other law. -/
theorem Travel.Lawful.counted {encoder : Bool} (lawful : t.Lawful encoder) {remainder : Nat} {steps : Int} (bin : Int)
    (below : ∀ p, t.page = some p → remainder < p.pulsesPerMetre) (short : -4 < steps ∧ steps < 4) :
    Travel.Lawful { t with remainder := remainder, currentBin := bin, steps := steps } encoder :=
  ⟨⟨lawful.state.timer, lawful.state.uncalibrated⟩,
    ⟨fun p page => ⟨below p page, (lawful.count.remainder p page).2⟩, short⟩, lawful.lost, lawful.own⟩

theorem Travel.Lawful.pulse {encoder : Bool} (lawful : t.Lawful encoder) (forward : Bool) (now : Nat) :
    (t.pulse forward now).Lawful encoder := by
  unfold Travel.pulse
  split
  · exact lawful
  next page applied =>
    obtain ⟨below, atLeast⟩ := lawful.count.remainder page applied
    refine Travel.Lawful.moveTo (lawful.counted _ (fun p same => ?_) lawful.count.steps) _ _
    cases applied.symm.trans same
    cases forward
    · exact backwardPulse_below below atLeast
    · exact forwardPulse_below below atLeast

theorem Travel.Lawful.pairChange {encoder : Bool} (lawful : t.Lawful encoder) (before after : Fin 4) (now : Nat) :
    (t.pairChange before after now).Lawful encoder := by
  obtain ⟨low, high⟩ := lawful.count.steps
  have placed (steps : Int) (short : -4 < steps ∧ steps < 4) : Travel.Lawful { t with steps := steps } encoder :=
    lawful.counted t.currentBin (fun p page => (lawful.count.remainder p page).1) short
  have stepped (forward : Bool) : (t.step forward now).Lawful encoder := by
    have near : -4 ≤ (if forward = true then t.steps + 1 else t.steps - 1) ∧
        (if forward = true then t.steps + 1 else t.steps - 1) ≤ 4 := by
      split_ifs <;> omega
    unfold Travel.step
    generalize (if forward = true then t.steps + 1 else t.steps - 1) = steps at near ⊢
    dsimp only
    split_ifs
    · exact Travel.Lawful.pulse (placed 0 (by decide)) _ _
    · exact Travel.Lawful.pulse (placed 0 (by decide)) _ _
    · exact placed steps (by omega)
  unfold Travel.pairChange
  split_ifs
  · exact stepped true
  · exact stepped false
  · exact lawful

/-! ## Following -/

/-- A follower leaves LOST by the content of its source (R32). -/
theorem Travel.leaveLost_law {mark now : Nat} (calibrated : t.page.isSome = true) :
    (t.leaveLost mark now).StateLaw ∧ (t.leaveLost mark now).state ≠ .lost := by
  obtain ⟨page, applied⟩ := Option.isSome_iff_exists.1 calibrated
  have absent : ¬t.page = none := by simp [applied]
  unfold Travel.leaveLost Travel.enterPaving Travel.enter
  rw [Travel.stopStarted_eq applied]
  split_ifs <;> exact ⟨⟨by simp, fun h => absurd h absent⟩, by simp⟩

theorem Travel.follow_law (law : t.StateLaw) (c : TravelContent) (now : Nat) :
    (t.follow c now).StateLaw ∧ (t.follow c now).state ≠ .lost := by
  unfold Travel.follow
  dsimp only
  by_cases lost : t.state = .lost
  · rw [if_pos (by simp [lost])]
    refine Travel.leaveLost_law ?_
    cases page : t.page with
    | none => cases lost.symm.trans (law.uncalibrated page).1
    | some page => rfl
  · rw [if_neg (by simpa using lost)]
    have sped : Travel.StateLaw { t with speed := if t.page.isSome then c.speed else 0 } :=
      ⟨law.timer, fun absent => by
        obtain ⟨stopped, mark, -⟩ := law.uncalibrated absent
        exact ⟨stopped, mark, by simp [show t.page = none from absent]⟩⟩
    refine ⟨sped.moveTo _ _, ?_⟩
    rwa [ne_eq, Travel.moveTo_lost sped]

theorem Travel.follow_frame (t : Travel) (c : TravelContent) (now : Nat) :
    (t.follow c now).page = t.page ∧ (t.follow c now).steps = t.steps := by
  unfold Travel.follow
  generalize (if t.page.isSome = true then c.speed else 0) = speed
  dsimp only
  split_ifs
  · unfold Travel.leaveLost Travel.enterPaving Travel.enter
    dsimp only
    split_ifs <;> exact ⟨rfl, rfl⟩
  · rw [Travel.moveTo_frame]
    exact ⟨rfl, rfl⟩

/-- A record with a station as its source, lawful but perhaps still LOST, takes content (R31, R32). -/
theorem Travel.follow_lawful {n : Fin 8} (law : t.StateLaw) (count : t.CountLaw) (source : t.source = .station n)
    (c : TravelContent) (now : Nat) : (t.follow c now).Lawful false := by
  obtain ⟨-, -, remainder, -, sameSource, -⟩ := t.follow_keeps c now
  obtain ⟨page, steps⟩ := t.follow_frame c now
  obtain ⟨state, found⟩ := Travel.follow_law law c now
  refine ⟨state, ⟨?_, ?_⟩, ?_, ?_⟩
  · rw [page, remainder]; exact count.remainder
  · rw [steps]; exact count.steps
  · unfold Travel.LostLaw
    simp [found, sameSource, source]
  · simp [sameSource, source]

theorem Travel.followRebase_lawful {n : Fin 8} (count : t.CountLaw) (source : t.source = .station n) (c : TravelContent) :
    (t.followRebase c).Lawful false :=
  ⟨⟨by simp [Travel.followRebase, Travel.enter], fun absent => ⟨rfl, rfl, by
      simp [Travel.followRebase, Travel.enter, show t.page = none from absent]⟩⟩,
    ⟨count.remainder, count.steps⟩, by simp [Travel.LostLaw, Travel.followRebase, Travel.enter, source],
    by simp [Travel.followRebase, Travel.enter, source]⟩

theorem Travel.loseSource_lawful (lawful : t.Lawful false) : t.loseSource.Lawful false := by
  unfold Travel.loseSource
  split_ifs with calibrated
  · exact ⟨⟨by simp [Travel.enter], fun absent => by simp [show t.page = none from absent] at calibrated⟩,
      ⟨lawful.count.remainder, lawful.count.steps⟩, by simp [Travel.LostLaw, Travel.enter, calibrated],
      by simp [Travel.enter]⟩
  · have absent : t.page = none := by simpa using calibrated
    obtain ⟨stopped, mark, -⟩ := lawful.state.uncalibrated absent
    exact ⟨⟨lawful.state.timer, fun _ => ⟨stopped, mark, rfl⟩⟩, ⟨lawful.count.remainder, lawful.count.steps⟩,
      by simp [Travel.LostLaw, stopped, absent], by simp⟩

/-! ## A rebase, the page and the bins -/

/-- A record that stands still at its chainage in the state of a station at rest (R32, R33). -/
theorem Travel.rest_lawful {encoder : Bool} (count : t.CountLaw) (own : t.source = .own ↔ encoder = true)
    (speed : t.page = none → t.speed = 0) : (t.enter t.restState).Lawful encoder := by
  have rest : t.restState = .lost ↔ t.page.isSome = true ∧ t.source = .none := by
    simp [Travel.restState]
  have still : t.restState ≠ .paving := by
    unfold Travel.restState
    split_ifs <;> simp
  refine ⟨⟨by simp [Travel.enter, still], fun absent => ⟨?_, rfl, speed absent⟩⟩, ⟨count.remainder, count.steps⟩, rest, own⟩
  simp [Travel.enter, Travel.restState, show t.page = none from absent]

theorem remainderUnder_lt {r p : Nat} (atLeast : 100 ≤ p) : remainderUnder r p < p := by
  unfold remainderUnder
  split_ifs <;> omega

theorem TravelPage.ofFields_atLeast (f : TravelFields) : 100 ≤ (TravelPage.ofFields f).pulsesPerMetre := by
  unfold TravelPage.ofFields
  dsimp only
  rw [clampNat_eq] <;> omega

theorem Travel.applyPage_lawful {encoder : Bool} (lawful : t.Lawful encoder) {page : TravelPage}
    (atLeast : 100 ≤ page.pulsesPerMetre) : (t.applyPage page).Lawful encoder := by
  have count (bins : List Int) (bin : Int) : Travel.CountLaw
      { t with
        page := some page, remainder := remainderUnder t.remainder page.pulsesPerMetre, bins := bins, currentBin := bin } :=
    ⟨fun p same => by cases same; exact ⟨remainderUnder_lt atLeast, atLeast⟩, lawful.count.steps⟩
  unfold Travel.applyPage
  dsimp only
  split_ifs with calibrated
  · refine ⟨⟨lawful.state.timer, nofun⟩, count _ _, ?_, lawful.own⟩
    have lost := lawful.lost
    unfold Travel.LostLaw at *
    simpa [calibrated] using lost
  · exact Travel.rest_lawful
      (t := { t with
        page := some page, remainder := remainderUnder t.remainder page.pulsesPerMetre, bins := [0, 0, 0, 0, 0]
        currentBin := 0 })
      (count _ _) lawful.own nofun

theorem Travel.closeBin_lawful {encoder : Bool} (lawful : t.Lawful encoder) : t.closeBin.Lawful encoder := by
  unfold Travel.closeBin
  split
  next absent =>
    obtain ⟨stopped, mark, -⟩ := lawful.state.uncalibrated absent
    exact ⟨⟨lawful.state.timer, fun _ => ⟨stopped, mark, rfl⟩⟩, ⟨lawful.count.remainder, lawful.count.steps⟩,
      lawful.lost, lawful.own⟩
  next page applied =>
    exact ⟨⟨lawful.state.timer, fun absent => by cases applied.symm.trans absent⟩,
      ⟨lawful.count.remainder, lawful.count.steps⟩, lawful.lost, lawful.own⟩

end

/-! ## The acts -/

section
variable {s t : State}

theorem State.TravelNext.lawful {u : Travel} (next : s.TravelNext u) (lawful : s.travel.Lawful s.straps.encoder) :
    u.Lawful s.straps.encoder := by
  have rebased (chainage : Nat) (epoch : BitVec 8) : Travel.CountLaw
      { s.travel with chainage := chainage, remainder := 0, epoch := epoch } :=
    ⟨fun p page => ⟨by have := (lawful.count.remainder p page).2; dsimp only; omega, (lawful.count.remainder p page).2⟩,
      lawful.count.steps⟩
  cases next with
  | cadence timer => exact ⟨⟨lawful.state.timer, lawful.state.uncalibrated⟩,
      ⟨lawful.count.remainder, lawful.count.steps⟩, lawful.lost, lawful.own⟩
  | pair before after now encoder => exact lawful.pairChange before after now
  | bin => exact Travel.closeBin_lawful lawful
  | stop runs =>
    have paving := lawful.state.timer.1 runs
    have calibrated : s.travel.page ≠ none := fun absent => by
      cases paving.symm.trans (lawful.state.uncalibrated absent).1
    have sourced := lawful.lost
    unfold Travel.LostLaw at sourced
    exact ⟨⟨by simp [Travel.enter], fun absent => absurd absent calibrated⟩,
      ⟨lawful.count.remainder, lawful.count.steps⟩, by simpa [Travel.LostLaw, Travel.enter, paving] using sourced,
      lawful.own⟩
  | follow n c now follower same =>
    rw [follower]; exact Travel.follow_lawful lawful.state lawful.count same c now
  | followRebase n c follower same =>
    rw [follower]; exact Travel.followRebase_lawful lawful.count same c
  | change n c now follower =>
    rw [follower]
    exact Travel.follow_lawful (t := s.travel.changeSource n) ⟨lawful.state.timer, lawful.state.uncalibrated⟩
      ⟨lawful.count.remainder, lawful.count.steps⟩ rfl c now
  | changeRebase n c follower =>
    rw [follower]
    exact Travel.followRebase_lawful (t := s.travel.changeSource n) ⟨lawful.count.remainder, lawful.count.steps⟩ rfl c
  | lose follower =>
    rw [follower] at lawful ⊢
    exact Travel.loseSource_lawful lawful
  | rebase c epoch =>
    exact Travel.rest_lawful (t := { s.travel with chainage := c, remainder := 0, epoch := epoch }) (rebased c epoch)
      lawful.own fun absent => (lawful.state.uncalibrated absent).2.2
  | page f => exact Travel.applyPage_lawful lawful (TravelPage.ofFields_atLeast f)

theorem Travel.atReset_lawful (p : Straps) (c : Nat) (epoch : BitVec 8) (r : Nat) :
    (Travel.atReset p c epoch r).Lawful p.encoder :=
  ⟨⟨by simp [Travel.atReset], fun _ => ⟨rfl, rfl, rfl⟩⟩, ⟨nofun, by simp [Travel.atReset]⟩,
    by simp [Travel.LostLaw, Travel.atReset], by cases h : p.encoder <;> simp [Travel.atReset, h]⟩

theorem Travel.Lawful.started {u : Travel} {encoder : Bool} (lawful : u.Lawful encoder) (p : Straps) (now : Nat) :
    (u.started p now).Lawful encoder :=
  ⟨⟨lawful.state.timer, lawful.state.uncalibrated⟩, ⟨lawful.count.remainder, lawful.count.steps⟩, lawful.lost, lawful.own⟩

/-- A work of another block leaves the travel record and the straps. -/
theorem State.Work.travel_or_kept (work : s.Work t) :
    (∃ u, s.TravelNext u ∧ t.travel = u ∧ t.straps = s.straps) ∨ (t.travel = s.travel ∧ t.straps = s.straps) := by
  unfold State.straps
  cases work with
  | line act => exact .inr ⟨by rw [act.frame], by rw [act.frame]⟩
  | travel act =>
    cases act with
    | travel u next => exact .inl ⟨u, next, rfl, rfl⟩
    | toLevel before => exact .inr ⟨by rw [s.travelToLevel_frame before], by rw [s.travelToLevel_frame before]⟩
  | row act => exact .inr ⟨by rw [act.frame], by rw [act.frame]⟩
  | heat act => exact .inr ⟨by rw [act.frame], by rw [act.frame]⟩
  | level act => exact .inr ⟨by rw [act.frame], by rw [act.frame]⟩
  | feed act => exact .inr ⟨by rw [act.frame], by rw [act.frame]⟩
  | station act => exact .inr ⟨by rw [act.frame], by rw [act.frame]⟩
  | store act => exact .inr ⟨by rw [act.frame], by rw [act.frame]⟩

theorem State.Act.travelSound (act : s.Act t) (sound : s.TravelSound) : t.TravelSound := by
  rw [State.travelSound_iff] at *
  cases act with
  | work work =>
    rcases work.travel_or_kept with ⟨u, next, rfl, straps⟩ | ⟨travel, straps⟩
    · rw [straps]; exact next.lawful sound
    · rw [travel, straps]; exact sound
  | reset act =>
    cases act with
    | warm => exact Travel.atReset_lawful _ _ _ _
    | prolong => exact sound
    | started => exact sound.started _ _
    | powerOn => exact sound
    | poweredOn straps since => exact (Travel.atReset_lawful _ _ _ _).started _ _

end

/-- Settles O53: each next travel record is lawful, and only the Travel Unit's own acts make one. -/
theorem stepKeepsTravelSound : Obligations.StepKeepsTravelSound := by
  unfold Obligations.StepKeepsTravelSound
  intro s t sound stepped
  exact step_keeps (P := State.TravelSound) (fun _ _ _ sound => sound) (fun _ _ act => act.travelSound) sound stepped

end Sys2Proof.Machine
end

section
/-! PROOFS. The laws of the drives (Sections 7.1, 7.2, 7.6 and 7.7). -/

namespace Sys2Proof.Machine

/-! ## One drive -/

section
variable {d : DriveRecord}

/-- A mode accepted on a drive (R120). -/
theorem DriveRecord.Sound.setMode (sound : d.Sound) (m : DriveMode) (n : Nat) : (d.setMode m n).Sound := by
  obtain ⟨off, idle, stalled, stall, hold, auto, command, manual⟩ := id sound
  have target : clampNat 0 1000 n ≤ 1000 := by rw [clampNat_eq] <;> omega
  have resting (mode : d.mode = .off) : d.condition = .none ∧ d.command = 0 := ⟨off.1 mode, idle (off.1 mode)⟩
  unfold DriveRecord.setMode
  split
  case h_1 => exact sound
  case h_2 => exact ⟨by simp, by simp, by simp, by simp [Config.stallCommand], by simp, by simp, Nat.zero_le _, manual⟩
  case h_3 was =>
    obtain ⟨still, zero⟩ := resting was
    exact ⟨by simp, by simp, by simp, stall, by simpa [still] using hold, by simp, command, target⟩
  case h_4 was => exact ⟨off, idle, stalled, stall, hold, auto, command, target⟩
  case h_5 was =>
    have running : d.condition ≠ .none := fun still => by cases was.symm.trans (off.2 still)
    cases condition : d.condition <;> simp_all [DriveCondition.manual, DriveRecord.Sound]
  case h_6 was =>
    obtain ⟨still, zero⟩ := resting was
    exact ⟨by simp, by simp, by simp, stall, by simpa [still] using hold, by simp, command, manual⟩
  case h_7 was =>
    have running : d.condition ≠ .none := fun still => by cases was.symm.trans (off.2 still)
    exact ⟨by simpa using running, idle, stalled, stall, hold, by simp, command, manual⟩
  case h_8 => exact sound

theorem DriveRecord.setMode_off (n : Nat) : (d.setMode .off n).mode = .off := by
  unfold DriveRecord.setMode
  cases mode : d.mode <;> simp [mode]

theorem rateLimited_le {command target : Nat} (c : command ≤ 1000) (t : target ≤ 1000) : rateLimited command target ≤ 1000 := by
  rw [rateLimited_eq]
  split_ifs <;> omega

/-- The stall timer judged against a new command runs exactly at 200 or more (R126). -/
theorem stallAfter_isSome {timer : Option Nat} {before : Nat} (law : timer.isSome = true ↔ Config.stallCommand ≤ before)
    (after now time : Nat) : (stallAfter timer before after now time).isSome = true ↔ Config.stallCommand ≤ after := by
  unfold stallAfter
  split_ifs with low rises
  · simpa using low
  · simpa using low
  · rw [law]; omega

/-- A drive that moves, judged at a control period: a sound record but for the stall timer, with a target of at most 1000 (R127). -/
theorem DriveRecord.judge_law (sound : d.Sound) (on : d.mode ≠ .off) (moves : d.condition ≠ .stalled) {law : Option Nat}
    (bounded : ∀ t, law = some t → t ≤ 1000) (now : Nat) :
    (d.judge law now).1.mode = d.mode ∧ (d.judge law now).1.command = d.command ∧
      (d.judge law now).1.stallTimer = d.stallTimer ∧ (d.judge law now).1.manualTarget = d.manualTarget ∧
      (d.judge law now).1.condition ≠ .none ∧ (d.judge law now).1.condition ≠ .stalled ∧
      ((d.judge law now).1.holdTimer.isSome = true ↔ (d.judge law now).1.condition = .sensorHold) ∧
      ((d.judge law now).1.condition = .sensorHold ∨ (d.judge law now).1.condition = .sensorRamp → d.mode = .auto) ∧
      (d.judge law now).2 ≤ 1000 := by
  obtain ⟨off, idle, stalled, stall, hold, auto, command, manual⟩ := sound
  have running : d.condition ≠ .none := fun still => on (off.2 still)
  unfold DriveRecord.judge
  cases mode : d.mode with
  | off => exact absurd mode on
  | manual => exact ⟨mode, rfl, rfl, rfl, running, moves, hold, fun h => mode.symm.trans (auto h), manual⟩
  | auto =>
    cases law with
    | some target => simpa [mode] using bounded target rfl
    | none =>
      cases condition : d.condition with
      | none => exact absurd condition running
      | stalled => exact absurd condition moves
      | driving => simpa [mode] using command
      | sensorHold => simpa [mode, condition, hold] using command
      | sensorRamp => simpa [mode, condition] using hold

theorem DriveRecord.Sound.runPeriod (sound : d.Sound) {law : Option Nat} (bounded : ∀ t, law = some t → t ≤ 1000)
    (now stallTime : Nat) : (d.runPeriod law now stallTime).Sound := by
  unfold DriveRecord.runPeriod
  split_ifs with still
  · exact sound
  · simp only [Bool.or_eq_true, beq_iff_eq, not_or] at still
    obtain ⟨mode, command, timer, target, runs, moves, hold, auto, high⟩ :=
      DriveRecord.judge_law sound still.1 still.2 bounded now
    obtain ⟨-, -, -, stall, -, -, bound, manual⟩ := sound
    refine ⟨?_, fun h => absurd h runs, fun h => absurd h moves, stallAfter_isSome stall _ _ _, hold, ?_,
      rateLimited_le bound high, ?_⟩
    · simp [mode, still.1, runs]
    · simpa [mode] using auto
    · simpa [target] using manual

theorem DriveRecord.runPeriod_mode (law : Option Nat) (now stallTime : Nat) :
    (d.runPeriod law now stallTime).mode = d.mode := by
  unfold DriveRecord.runPeriod DriveRecord.judge
  split_ifs
  · rfl
  · dsimp only
    split
    · rfl
    · split <;> rfl
    · rfl

theorem DriveRecord.Sound.pulse (sound : d.Sound) (now stallTime : Nat) : (d.pulse now stallTime).Sound := by
  obtain ⟨off, idle, stalled, stall, hold, auto, command, manual⟩ := id sound
  have restarted : (d.stallTimer.map fun _ => now + stallTime).isSome = true ↔ Config.stallCommand ≤ d.command := by
    simpa using stall
  unfold DriveRecord.pulse
  dsimp only
  split
  · split_ifs
    · exact sound
    all_goals exact ⟨off, idle, stalled, restarted, hold, auto, command, manual⟩
  · exact ⟨off, idle, stalled, restarted, hold, auto, command, manual⟩

theorem DriveRecord.pulse_mode (now stallTime : Nat) : (d.pulse now stallTime).mode = d.mode := by
  unfold DriveRecord.pulse
  dsimp only
  split
  · split_ifs <;> rfl
  · rfl

/-- The hold timer's expiry finds the drive in SENSOR-HOLD (R127). -/
theorem DriveRecord.Sound.holdOver (sound : d.Sound) (runs : d.holdTimer.isSome = true) : d.holdOver.Sound := by
  obtain ⟨off, idle, stalled, stall, hold, auto, command, manual⟩ := sound
  have held := hold.1 runs
  have mode := auto (.inl held)
  exact ⟨by simp [DriveRecord.holdOver, mode], by simp [DriveRecord.holdOver], by simp [DriveRecord.holdOver], stall,
    by simp [DriveRecord.holdOver], fun _ => mode, command, manual⟩

/-- The stall timer's expiry finds the drive commanded, so not OFF (R126). -/
theorem DriveRecord.Sound.stall (sound : d.Sound) (runs : d.stallTimer.isSome = true) : d.stall.Sound := by
  obtain ⟨off, idle, stalled, stall, hold, auto, command, manual⟩ := sound
  have high := stall.1 runs
  have on : d.mode ≠ .off := fun h => by rw [idle (off.1 h)] at high; simp [Config.stallCommand] at high
  exact ⟨by simp [DriveRecord.stall, on], by simp [DriveRecord.stall], by simp [DriveRecord.stall],
    by simp [DriveRecord.stall, Config.stallCommand], by simp [DriveRecord.stall], by simp [DriveRecord.stall],
    Nat.zero_le _, manual⟩

end

/-! ## The Feed Controller -/

/-- Both drives are sound, and OFF where the station is no feed owner (R116). -/
def Feed.Lawful (f : Feed) (owner : Bool) : Prop :=
  ∀ d, (f.drive d).Sound ∧ (owner = false → (f.drive d).mode = .off)

theorem State.feedSound_iff (s : State) : s.FeedSound ↔ s.feed.Lawful s.owner := by
  constructor
  · rintro ⟨conveyor, auger, unfitted⟩ (_ | _)
    · exact ⟨conveyor, fun none => (unfitted none).1⟩
    · exact ⟨auger, fun none => (unfitted none).2⟩
  · intro lawful
    exact ⟨(lawful .conveyor).1, (lawful .auger).1, fun none => ⟨(lawful .conveyor).2 none, (lawful .auger).2 none⟩⟩

section
variable {f : Feed} {owner : Bool}

/-- One drive's record replaced by a sound one of the same mode. -/
theorem Feed.Lawful.setDrive (lawful : f.Lawful owner) {d : Drive} {r : DriveRecord} (sound : r.Sound)
    (off : owner = false → r.mode = .off) : (f.setDrive d r).Lawful owner := by
  intro other
  cases d <;> cases other
  · exact ⟨sound, off⟩
  · exact lawful .auger
  · exact lawful .conveyor
  · exact ⟨sound, off⟩

theorem Feed.Lawful.congr {g : Feed} (lawful : f.Lawful owner) (same : ∀ d, g.drive d = f.drive d) : g.Lawful owner := by
  intro d
  rw [same d]
  exact lawful d

end

theorem feedTarget_le (kff v kl setpoint : Nat) (level : Int) : feedTarget kff v kl setpoint level ≤ 1000 := by
  unfold feedTarget
  rw [clampInt_eq (by decide)]
  omega

theorem State.lawTarget_le {s : State} {d : Drive} (t : Nat) (h : s.lawTarget d = some t) : t ≤ 1000 := by
  unfold State.lawTarget at h
  split at h
  · cases h
    exact feedTarget_le _ _ _ _ _
  · cases h

theorem State.applyFeedPage_drive (s : State) (d : Drive) : s.applyFeedPage.feed.drive d = s.feed.drive d := by
  unfold State.applyFeedPage
  split_ifs
  · split <;> cases d <;> rfl
  · rfl

theorem State.runDrives_lawful {s : State} {owner : Bool} (lawful : s.feed.Lawful owner) : s.runDrives.feed.Lawful owner := by
  intro d
  obtain ⟨sound, off⟩ := lawful d
  cases d <;>
    exact ⟨sound.runPeriod State.lawTarget_le _ _, fun none => (DriveRecord.runPeriod_mode _ _ _).trans (off none)⟩

section
variable {s t : State}

theorem State.FeedAct.lawful (act : s.FeedAct t) (lawful : s.feed.Lawful s.owner) : t.feed.Lawful s.owner := by
  cases act with
  | reading sensor r =>
    refine lawful.congr fun d => ?_
    unfold State.takeFeedReading
    split_ifs <;> cases sensor <;> cases d <;> rfl
  | silent sensor => exact lawful.congr fun d => by cases sensor <;> cases d <;> rfl
  | mode d m n owner awake =>
    obtain ⟨sound, -⟩ := lawful d
    exact lawful.setDrive (sound.setMode m n) fun none => by rw [owner] at none; cases none
  | period =>
    refine State.runDrives_lawful (lawful.congr fun d => ?_)
    have applied := State.applyFeedPage_drive
      { s with feed := { s.feed with periodTimer := s.feed.periodTimer.map (· + Config.controlPeriod) } } d
    cases d <;> exact applied
  | holdOver d runs => exact lawful.setDrive ((lawful d).1.holdOver runs) (lawful d).2
  | pulse d =>
    unfold State.takeSpeedPulse
    split_ifs
    · exact lawful.setDrive ((lawful d).1.pulse _ _) fun none => (DriveRecord.pulse_mode _ _).trans ((lawful d).2 none)
    · exact lawful
  | captureOver d => exact lawful.setDrive (lawful d).1 (lawful d).2
  | stall d runs => exact lawful.setDrive ((lawful d).1.stall runs) (lawful d).2
  | cadence timer => exact lawful.congr fun d => by cases d <;> rfl
  | pending => exact lawful.congr fun d => by cases d <;> rfl

theorem Feed.atReset_lawful (owner : Bool) : Feed.atReset.Lawful owner := by
  intro d
  cases d <;> exact ⟨by simp [DriveRecord.Sound, Feed.atReset, Feed.drive, DriveRecord.atReset, Config.stallCommand],
    fun _ => rfl⟩

/-- A work of another block leaves the drives and the straps. -/
theorem State.Work.feed_or_kept (work : s.Work t) : (s.FeedAct t ∨ t.feed = s.feed) ∧ t.straps = s.straps := by
  unfold State.straps
  cases work with
  | line act => exact ⟨.inr (by rw [act.frame]), by rw [act.frame]⟩
  | travel act => exact ⟨.inr (by rw [act.frame]), by rw [act.frame]⟩
  | row act => exact ⟨.inr (by rw [act.frame]), by rw [act.frame]⟩
  | heat act => exact ⟨.inr (by rw [act.frame]), by rw [act.frame]⟩
  | level act => exact ⟨.inr (by rw [act.frame]), by rw [act.frame]⟩
  | feed act => exact ⟨.inl act, by rw [act.frame]⟩
  | station act => exact ⟨.inr (by rw [act.frame]), by rw [act.frame]⟩
  | store act => exact ⟨.inr (by rw [act.frame]), by rw [act.frame]⟩

theorem State.Act.feedSound (act : s.Act t) (sound : s.FeedSound) : t.FeedSound := by
  rw [State.feedSound_iff] at *
  cases act with
  | work work =>
    obtain ⟨feed, straps⟩ := work.feed_or_kept
    have owner : t.owner = s.owner := by unfold State.owner; rw [straps]
    rw [owner]
    rcases feed with act | feed
    · exact act.lawful sound
    · rw [feed]; exact sound
  | reset act =>
    cases act with
    | warm => exact Feed.atReset_lawful _
    | prolong => exact sound
    | started => exact sound.congr fun d => by cases d <;> rfl
    | powerOn => exact sound
    | poweredOn straps since => exact (Feed.atReset_lawful _).congr fun d => by cases d <;> rfl

end

/-- Settles O56: every operation on a drive record keeps its laws, and only the Feed Controller's acts reach one. -/
theorem stepKeepsFeedSound : Obligations.StepKeepsFeedSound := by
  unfold Obligations.StepKeepsFeedSound
  intro s t sound stepped
  exact step_keeps (P := State.FeedSound) (fun _ _ _ sound => sound) (fun _ _ act => act.feedSound) sound stepped

end Sys2Proof.Machine
end

section
/-! PROOFS. The account of the Record Ring (Section 9.1), modulo 2^32 as R154 has it. -/

namespace Sys2Proof.Machine

section
variable {r : Ring}

/-- The laws of the ring rest on its rows and counters alone. -/
theorem Ring.Sound.congr {q : Ring} (sound : r.Sound) (rows : q.rows = r.rows) (next : q.next = r.next)
    (released : q.released = r.released) (overwritten : q.overwritten = r.overwritten) (closed : q.closed = r.closed)
    (dropped : q.dropped = r.dropped) : q.Sound := by
  unfold Ring.Sound Ring.oldest Ring.count at *
  rw [rows, next, released, overwritten, closed, dropped]
  exact sound

theorem Ring.next_eq (r : Ring) : r.next = r.oldest + BitVec.ofNat 32 r.count := by
  unfold Ring.oldest
  ring

theorem singleton_getElem? {α : Type} {a b : α} {i : Nat} (found : [a][i]? = some b) : i = 0 ∧ b = a := by
  cases i with
  | zero => exact ⟨rfl, (Option.some.inj found).symm⟩
  | succ i => cases found

theorem ofNat_succ (n : Nat) : BitVec.ofNat 32 (n + 1) = BitVec.ofNat 32 n + 1 := by
  rw [BitVec.ofNat_add]
  rfl

/-- Below 512 rows a row takes the next sequence behind the newest (R153). -/
theorem Ring.Sound.append (sound : r.Sound) (room : r.count < Config.ringRows) (row : Row) :
    Ring.Sound { r with rows := r.rows ++ [⟨r.next, row⟩], next := r.next + 1, closed := r.closed + 1 } := by
  obtain ⟨-, places, committed, closed⟩ := sound
  have count : (r.rows ++ [(⟨r.next, row⟩ : HeldRow)]).length = r.count + 1 := by simp [Ring.count]
  have oldest : r.next + 1 - BitVec.ofNat 32 (r.rows ++ [(⟨r.next, row⟩ : HeldRow)]).length = r.oldest := by
    rw [count, ofNat_succ, Ring.oldest]
    ring
  refine ⟨?_, fun i h found => ?_, ?_, ?_⟩
  · exact count.trans_le room
  · dsimp only [Ring.oldest, Ring.count] at found ⊢
    rw [oldest]
    rcases Nat.lt_or_ge i r.rows.length with old | new
    · rw [List.getElem?_append_left old] at found
      exact places i h found
    · rw [List.getElem?_append_right new] at found
      obtain ⟨position, rfl⟩ := singleton_getElem? found
      rw [show i = r.count from by unfold Ring.count; omega]
      exact r.next_eq
  · dsimp only [Ring.count]
    rw [count, ofNat_succ, committed]
    ring
  · dsimp only
    rw [closed]
    ring

/-- A full ring in WRAP gives the oldest row's place up (R153). -/
theorem Ring.Sound.overwrite (sound : r.Sound) (full : r.count = Config.ringRows) (row : Row) :
    Ring.Sound
      { r with
        rows := r.rows.drop 1 ++ [⟨r.next, row⟩], next := r.next + 1, closed := r.closed + 1
        overwritten := r.overwritten + 1 } := by
  obtain ⟨-, places, committed, closed⟩ := sound
  have some : 0 < r.rows.length := by
    have : r.rows.length = 512 := full
    omega
  have count : (r.rows.drop 1 ++ [(⟨r.next, row⟩ : HeldRow)]).length = r.count := by
    simp only [List.length_append, List.length_drop, List.length_singleton, Ring.count]
    omega
  have oldest : r.next + 1 - BitVec.ofNat 32 (r.rows.drop 1 ++ [(⟨r.next, row⟩ : HeldRow)]).length = r.oldest + 1 := by
    rw [count, Ring.oldest]
    ring
  refine ⟨?_, fun i h found => ?_, ?_, ?_⟩
  · exact (count.trans full).le
  · dsimp only [Ring.oldest, Ring.count] at found ⊢
    rw [oldest]
    rcases Nat.lt_or_ge i (r.rows.drop 1).length with old | new
    · rw [List.getElem?_append_left old, List.getElem?_drop] at found
      rw [places (1 + i) h found, Nat.add_comm, ofNat_succ]
      ring
    · rw [List.getElem?_append_right new] at found
      obtain ⟨position, rfl⟩ := singleton_getElem? found
      have last : r.count = i + 1 := by
        rw [List.length_drop] at new position
        unfold Ring.count
        omega
      dsimp only
      rw [r.next_eq, last, ofNat_succ]
      ring
  · dsimp only [Ring.count]
    rw [count, committed]
    ring
  · dsimp only
    rw [closed]
    ring

theorem Ring.Sound.commit (sound : r.Sound) (row : Row) : (r.commit row).Sound := by
  unfold Ring.commit
  split_ifs with room
  · exact sound.append room row
  · have full : r.count = Config.ringRows := Nat.le_antisymm sound.1 (Nat.le_of_not_lt room)
    split
    · exact sound.overwrite full row
    · obtain ⟨bound, places, committed, closed⟩ := sound
      refine ⟨bound, places, committed, ?_⟩
      dsimp only
      rw [closed]
      ring

theorem Ring.releaseCount_le (upto : Word32) : r.releaseCount upto ≤ r.count := by
  unfold Ring.releaseCount
  split_ifs
  · exact Nat.zero_le _
  · exact Nat.zero_le _
  · exact Nat.min_le_right _ _

/-- A RELEASE moves rows from the held to the released (R160). -/
theorem Ring.Sound.release (sound : r.Sound) (upto : Word32) : (r.releaseTo upto).Sound := by
  obtain ⟨bound, places, committed, closed⟩ := sound
  have few := r.releaseCount_le upto
  unfold Ring.releaseTo
  generalize r.releaseCount upto = n at few
  have kept : (r.rows.drop n).length + n = r.count := by
    rw [List.length_drop]
    unfold Ring.count at *
    omega
  have split : BitVec.ofNat 32 r.count = BitVec.ofNat 32 (r.rows.drop n).length + BitVec.ofNat 32 n := by
    rw [← kept, BitVec.ofNat_add]
  refine ⟨?_, fun i h found => ?_, ?_, closed⟩
  · show (r.rows.drop n).length ≤ Config.ringRows
    omega
  · dsimp only [Ring.oldest, Ring.count] at found ⊢
    rw [List.getElem?_drop] at found
    rw [places (n + i) h found, BitVec.ofNat_add, Ring.oldest, split]
    ring
  · dsimp only [Ring.count]
    rw [committed, split]
    ring

end

/-! ## The acts -/

section
variable {s t : State}

theorem State.RowAct.ringSound (act : s.RowAct t) (sound : s.ring.Sound) : t.ring.Sound := by
  cases act with
  | rows r scanner row page => exact sound
  | commit row => rw [State.commitRow_ring]; exact sound.commit row
  | opens => rw [State.tryOpenRow_ring]; exact sound
  | page => rw [State.applyRecordPage_ring]; exact sound

/-- But for its collection the ring is the same. -/
def Ring.SameRows (r q : Ring) : Prop := q = { r with collection := q.collection }

theorem Ring.SameRows.sound {r q : Ring} (same : r.SameRows q) (sound : r.Sound) : q.Sound := by
  rw [same]
  exact sound.congr rfl rfl rfl rfl rfl rfl

theorem State.startWaking_ring (s : State) : s.startWaking.ring = s.ring := by
  unfold State.startWaking State.wakeRows
  split_ifs <;> rfl

theorem State.noticeCollection_ring (s : State) (before : Bool) : (s.noticeCollection before).ring = s.ring := by
  rcases s.noticeCollection_cases before with ⟨same, -⟩ | ⟨inquiry, -⟩ | ⟨park, -⟩ | ⟨wakes, -⟩
  · rw [same]
  · rw [inquiry]
  · rw [park]
  · rw [wakes, State.startWaking_ring]

theorem State.CollectFrame.sameRows (frame : State.CollectFrame s t) : s.ring.SameRows t.ring := by
  rw [frame]
  rfl

theorem State.RowActs.ringSound (acts : s.RowActs t) (sound : s.ring.Sound) : t.ring.Sound := by
  induction acts with
  | refl => exact sound
  | tail _ act ih => exact act.ringSound ih

theorem State.StationAct.ringSound (act : s.StationAct t) (sound : s.ring.Sound) : t.ring.Sound := by
  cases act with
  | park o => exact State.RowActs.ringSound (State.parkRows_acts (s.parkedAndCut o)) sound
  | wake =>
    unfold State.takeWake
    split
    · rw [State.startWaking_ring]; exact sound
    all_goals exact sound
  | collect sender first count =>
    rw [State.collectAndNotice, State.noticeCollection_ring]
    exact (s.takeCollect_frame sender first count).sameRows.sound sound
  | collected o =>
    rw [State.noticeCollection_ring]
    exact (s.collectEndSent_frame o).sameRows.sound sound
  | recordSent => exact s.recordSent_frame.sameRows.sound sound
  | release upto => exact sound.release upto
  | _ => exact sound

theorem Ring.atPowerOn_sound : Ring.atPowerOn.Sound := by
  simp [Ring.Sound, Ring.atPowerOn, Ring.count]

theorem State.Act.ringSound (act : s.Act t) (sound : s.ring.Sound) : t.ring.Sound := by
  cases act with
  | work work =>
    cases work with
    | line act => rw [act.frame]; exact sound
    | travel act =>
      cases act with
      | travel => exact sound
      | toLevel before => rw [s.travelToLevel_frame before]; exact sound
    | row act => exact act.ringSound sound
    | heat act => rw [act.frame]; exact sound
    | level act => rw [act.frame]; exact sound
    | feed act => rw [act.frame]; exact sound
    | station act => exact act.ringSound sound
    | store act => rw [act.frame]; exact sound
  | reset act =>
    cases act with
    | warm => exact sound.congr rfl rfl rfl rfl rfl rfl
    | poweredOn => exact Ring.atPowerOn_sound
    | _ => exact sound

end

/-- Settles O57: a commit, an overwrite and a release each keep the account, and nothing else reaches the ring's rows. -/
theorem stepKeepsRingAccount : Obligations.StepKeepsRingAccount := by
  unfold Obligations.StepKeepsRingAccount
  intro s t sound stepped
  exact step_keeps (P := fun s => s.ring.Sound) (fun _ _ _ sound => sound) (fun _ _ act => act.ringSound) sound stepped

end Sys2Proof.Machine
end

section
/-! PROOFS. The laws of the side (Sections 5.1, 5.4 and 6.1). -/

namespace Sys2Proof.Machine

/-! ## The laws of the side's record -/

/-- The condition is NONE exactly outside AUTO, where no cause stands and no move is under way; a record stands in FROZEN or
SETTLING, the settle mark exactly in SETTLING (R81, R88, R105, R110). -/
structure Levelling.CoreLaw (l : Levelling) : Prop where
  idle : l.condition = .none ↔ isAuto l.mode = false
  resume : l.resume.isSome = true → l.condition = .frozen ∨ l.condition = .settling
  mark : l.settleMark.isSome = true ↔ l.condition = .settling
  outside : isAuto l.mode = false → l.causes = ⟨false, false, false⟩ ∧ l.redo = false

/-- HOLD with a cause and ACTIVE without (R88). -/
structure Levelling.CauseLaw (l : Levelling) : Prop where
  hold : l.condition = .hold → l.causes.any = true
  active : l.condition = .active → l.causes.any = false

/-- A station that levels no side stays OFF and NEUTRAL (R81). -/
def Levelling.FittedLaw (l : Levelling) (levelling : Bool) : Prop := levelling = false → l.mode = .off ∧ l.driver = .neutral

/-- The laws of the side's record at a station (Chapters 5 and 6). -/
structure Levelling.Lawful (l : Levelling) (levelling : Bool) : Prop where
  core : l.CoreLaw
  causes : l.CauseLaw
  fitted : l.FittedLaw levelling

theorem State.levelSound_iff (s : State) : s.LevelSound ↔ s.level.Lawful s.levelling :=
  ⟨fun ⟨idle, resume, mark, outside, hold, active, fitted⟩ => ⟨⟨idle, resume, mark, outside⟩, ⟨hold, active⟩, fitted⟩,
    fun ⟨⟨idle, resume, mark, outside⟩, ⟨hold, active⟩, fitted⟩ =>
      ⟨idle, resume, mark, outside, hold, active, fitted⟩⟩

/-- What the laws read of the record but for the driver is the same; a move under way in AUTO may begin or end. -/
structure Levelling.SameLaws (l k : Levelling) : Prop where
  mode : k.mode = l.mode
  condition : k.condition = l.condition
  causes : k.causes = l.causes
  resume : k.resume.isSome = l.resume.isSome
  mark : k.settleMark.isSome = l.settleMark.isSome
  redo : isAuto l.mode = false → k.redo = true → l.redo = true

section
variable {l k : Levelling} {levelling : Bool}

theorem Levelling.CoreLaw.congr (core : l.CoreLaw) (same : l.SameLaws k) : k.CoreLaw := by
  refine ⟨?_, ?_, ?_, fun manual => ?_⟩
  · rw [same.condition, same.mode]; exact core.idle
  · rw [same.condition, same.resume]; exact core.resume
  · rw [same.condition, same.mark]; exact core.mark
  · rw [same.mode] at manual
    obtain ⟨causes, still⟩ := core.outside manual
    refine ⟨same.causes.trans causes, ?_⟩
    cases moves : k.redo with
    | false => rfl
    | true => rw [same.redo manual moves] at still; cases still

theorem Levelling.CauseLaw.congr (law : l.CauseLaw) (same : l.SameLaws k) : k.CauseLaw := by
  refine ⟨?_, ?_⟩ <;> rw [same.condition, same.causes]
  · exact law.hold
  · exact law.active

theorem Levelling.Lawful.congr (lawful : l.Lawful levelling) (same : l.SameLaws k)
    (driver : levelling = false → l.driver = .neutral → k.driver = .neutral) : k.Lawful levelling :=
  ⟨lawful.core.congr same, lawful.causes.congr same, fun unfitted =>
    have ⟨off, neutral⟩ := lawful.fitted unfitted
    ⟨same.mode.trans off, driver unfitted neutral⟩⟩

/-- A side in AUTO stands at a station that levels one. -/
theorem Levelling.FittedLaw.fitted (law : l.FittedLaw levelling) (auto : isAuto l.mode = true) : levelling = true := by
  cases h : levelling with
  | true => rfl
  | false => rw [(law h).1] at auto; cases auto

/-! ## The operations on the record -/

theorem Levelling.setReference_same (m : SideMode) (v : Int) : l.SameLaws (l.setReference m v) := by
  unfold Levelling.setReference
  split_ifs <;> exact ⟨rfl, rfl, rfl, rfl, rfl, fun _ h => h⟩

theorem Levelling.SameLaws.rfl' : l.SameLaws l := ⟨rfl, rfl, rfl, rfl, rfl, fun _ h => h⟩

theorem Levelling.SameLaws.captured (same : l.SameLaws k) (c : Bool) : l.SameLaws { k with captured := c } :=
  ⟨same.mode, same.condition, same.causes, same.resume, same.mark, same.redo⟩

theorem Levelling.capture_same : l.SameLaws l.capture := by
  unfold Levelling.capture
  split
  · exact (Levelling.setReference_same _ _).captured _
  · exact Levelling.SameLaws.rfl'.captured _

theorem Levelling.setReference_driver (m : SideMode) (v : Int) : (l.setReference m v).driver = l.driver := by
  unfold Levelling.setReference
  split_ifs <;> rfl

theorem Levelling.cut_same (now : Nat) : l.SameLaws (l.cut now) := ⟨rfl, rfl, rfl, rfl, rfl, fun _ h => by cases h⟩

theorem Levelling.setSensor_same (sensor : LevellingSensor) (r : Sensor) : l.SameLaws (l.setSensor sensor r) := by
  cases sensor <;> exact ⟨rfl, rfl, rfl, rfl, rfl, fun _ h => h⟩

theorem Levelling.setSensor_driver (sensor : LevellingSensor) (r : Sensor) : (l.setSensor sensor r).driver = l.driver := by
  cases sensor <;> rfl

/-- In AUTO the record and the settle mark are gone in ACTIVE and in HOLD. -/
theorem Levelling.CoreLaw.changed (core : l.CoreLaw) (from' : l.condition = .active ∨ l.condition = .hold)
    {c : SideCondition} (into : c = .active ∨ c = .hold) : Levelling.CoreLaw { l with condition := c } := by
  have auto : ¬isAuto l.mode = false := fun manual => by
    have none := core.idle.2 manual
    rw [none] at from'
    simp at from'
  have bare : l.resume = none := by
    cases record : l.resume with
    | none => rfl
    | some r =>
      rcases core.resume (by simp [record]) with h | h <;> rw [h] at from' <;> simp at from'
  have unmarked : l.settleMark = none := by
    cases mark : l.settleMark with
    | none => rfl
    | some c =>
      have settling := core.mark.1 (by simp [mark])
      rw [settling] at from'
      simp at from'
  refine ⟨?_, by simp [bare], ?_, fun manual => absurd manual auto⟩
  · rcases into with rfl | rfl <;> simpa using auto
  · rcases into with rfl | rfl <;> simp [unmarked]

/-- Once the causes are judged, the condition of a side follows them (R88). -/
theorem Levelling.settleCondition_lawful (core : l.CoreLaw) (now : Nat) :
    (l.settleCondition now).CoreLaw ∧ (l.settleCondition now).CauseLaw := by
  unfold Levelling.settleCondition
  split_ifs with moving cause active
  · have cut := core.congr (Levelling.cut_same now)
    simp only [beq_iff_eq] at active
    exact ⟨cut.changed (.inl active) (.inr rfl), ⟨fun _ => cause, nofun⟩⟩
  · simp only [beq_iff_eq] at active
    exact ⟨core, ⟨fun _ => cause, fun h => absurd h active⟩⟩
  · simp only [Bool.or_eq_true, beq_iff_eq] at moving
    exact ⟨core.changed moving (.inl rfl), ⟨nofun, fun _ => by simpa using cause⟩⟩
  · simp only [Bool.or_eq_true, beq_iff_eq, not_or] at moving
    exact ⟨core, ⟨fun h => absurd h moving.2, fun h => absurd h moving.1⟩⟩

theorem Levelling.settleCondition_mode (now : Nat) : (l.settleCondition now).mode = l.mode := by
  unfold Levelling.settleCondition
  split_ifs <;> rfl

/-- Causes judged of a side in AUTO, and the condition that follows them (R88). -/
theorem Levelling.Lawful.judged (lawful : l.Lawful levelling) (auto : isAuto l.mode = true) (causes : Causes) (now : Nat) :
    (({ l with causes := causes } : Levelling).settleCondition now).Lawful levelling := by
  have core : Levelling.CoreLaw { l with causes := causes } :=
    ⟨lawful.core.idle, lawful.core.resume, lawful.core.mark, fun manual => by rw [auto] at manual; cases manual⟩
  obtain ⟨settled, law⟩ := Levelling.settleCondition_lawful core now
  refine ⟨settled, law, fun unfitted => ?_⟩
  rw [lawful.fitted.fitted auto] at unfitted
  cases unfitted

theorem Levelling.Lawful.faulted (lawful : l.Lawful levelling) (sensor : LevellingSensor) (now : Nat) :
    (l.faulted sensor now).Lawful levelling := by
  by_cases steers : l.SteersBy sensor
  · rw [Levelling.faulted_of_steersBy now steers]
    refine lawful.judged ?_ _ now
    unfold Levelling.SteersBy at steers
    rcases steers with ⟨mode, -⟩ | ⟨mode, -⟩ <;> rw [mode] <;> rfl
  · rw [Levelling.faulted_of_not_steersBy now steers]
    exact lawful

/-- A change of the driver alone, at a station that levels a side or one that leaves NEUTRAL as it is. -/
theorem Levelling.Lawful.driven (lawful : l.Lawful levelling) {d : Driver} {redo : Bool}
    (moves : isAuto l.mode = false → redo = true → l.redo = true)
    (neutral : levelling = false → l.driver = .neutral → d = .neutral) :
    Levelling.Lawful { l with driver := d, redo := redo } levelling :=
  lawful.congr ⟨rfl, rfl, rfl, rfl, rfl, moves⟩ neutral

theorem Levelling.Lawful.cut (lawful : l.Lawful levelling) (now : Nat) : (l.cut now).Lawful levelling :=
  lawful.congr (Levelling.cut_same now) fun _ neutral => by simp [Levelling.cut, neutral, Driver.afterCut]

end

/-! ## Stops, the settle and the modes -/

section
variable {s : State} {levelling : Bool}

theorem State.leavePaving_lawful (lawful : s.level.Lawful true) : s.leavePaving.level.Lawful true := by
  unfold State.leavePaving
  split_ifs with auto
  · have running : SideCondition.frozen = .none ↔ isAuto s.level.mode = false := by simp [auto]
    have unmarked (c : s.level.condition ≠ .settling) : s.level.settleMark = none := by
      cases mark : s.level.settleMark with
      | none => rfl
      | some m => exact absurd (lawful.core.mark.1 (by simp [mark])) c
    have frozen (resume : Option ResumeRecord) (l : Levelling) (mode : l.mode = s.level.mode) (mark : l.settleMark = none) :
        Levelling.Lawful { l with resume := resume, condition := .frozen } true :=
      ⟨⟨by rw [← mode] at running; exact running, fun _ => .inl rfl, by simp [mark],
          fun manual => by rw [mode, auto] at manual; cases manual⟩, ⟨nofun, nofun⟩, nofun⟩
    split
    next condition => exact frozen _ (s.level.cut s.now) rfl (unmarked (by simp [condition]))
    next condition => exact frozen _ (s.level.cut s.now) rfl (unmarked (by simp [condition]))
    next => exact frozen _ { s.level.cut s.now with settleMark := none } rfl rfl
    · exact lawful
  · exact lawful

theorem State.returnToPaving_lawful (lawful : s.level.Lawful levelling) : s.returnToPaving.level.Lawful levelling := by
  unfold State.returnToPaving
  split_ifs with frozen
  · have condition : s.level.condition = .frozen := by simpa using frozen
    have auto := lawful.core.idle
    rw [condition] at auto
    exact ⟨⟨by simpa using auto, fun _ => .inr rfl, by simp, lawful.core.outside⟩, ⟨nofun, nofun⟩, lawful.fitted⟩
  · exact lawful

/-- The reference set at the settle end touches no law (R109). -/
theorem Levelling.resumeReference_same (l : Levelling) : l.SameLaws l.resumeReference := by
  unfold Levelling.resumeReference
  split_ifs
  · exact Levelling.capture_same
  · split
    · split
      · exact (Levelling.setReference_same _ _).captured _
      · exact Levelling.SameLaws.rfl'
    · exact Levelling.capture_same

/-- A move issued at the settle end is issued in AUTO and in ACTIVE (R110). -/
theorem Levelling.resumeMove_same {l : Levelling} (auto : isAuto l.mode = true) (capturing : Bool) (now : Nat) :
    l.SameLaws (l.resumeMove capturing now) := by
  unfold Levelling.resumeMove
  split
  · split_ifs
    · exact ⟨rfl, rfl, rfl, rfl, rfl, fun manual => by rw [auto] at manual; cases manual⟩
    · exact Levelling.SameLaws.rfl'
  · exact Levelling.SameLaws.rfl'

/-- The condition after the settle end is HOLD with a cause and ACTIVE without (R111). -/
theorem Levelling.resumeCondition_law (l : Levelling) (now : Nat) :
    (l.resumeCondition now).mode = l.mode ∧ (l.resumeCondition now).CauseLaw ∧
      ((l.resumeCondition now).condition = .hold ∨ (l.resumeCondition now).condition = .active) := by
  unfold Levelling.resumeCondition
  split_ifs with cause
  · exact ⟨rfl, ⟨fun _ => cause, nofun⟩, .inl rfl⟩
  · exact ⟨rfl, ⟨nofun, fun _ => by simpa using cause⟩, .inr rfl⟩

theorem Levelling.settleEnd_lawful {l : Levelling} (auto : isAuto l.mode = true) (now : Nat) :
    (l.settleEnd now).Lawful true := by
  obtain ⟨mode, law, condition⟩ := l.resumeReference.resumeCondition_law now
  have same := l.resumeReference_same.mode
  have auto' : isAuto (l.resumeReference.resumeCondition now).mode = true := by rw [mode, same]; exact auto
  have moved := Levelling.resumeMove_same auto' l.settleCapture now
  unfold Levelling.settleEnd
  refine ⟨⟨?_, nofun, ?_, fun manual => ?_⟩, ?_, nofun⟩
  · dsimp only
    rw [moved.condition, moved.mode, auto']
    rcases condition with h | h <;> simp [h]
  · dsimp only
    rw [moved.condition]
    rcases condition with h | h <;> simp [h]
  · dsimp only at manual
    rw [moved.mode, auto'] at manual
    cases manual
  · have kept := law.congr moved
    exact ⟨kept.hold, kept.active⟩

theorem State.testSettle_lawful (lawful : s.level.Lawful true) : s.testSettle.level.Lawful true := by
  unfold State.testSettle
  split
  next settling mark =>
    split_ifs
    · refine Levelling.settleEnd_lawful ?_ _
      by_contra manual
      have none := lawful.core.idle.2 (by simpa using manual)
      cases settling.symm.trans none
    · exact lawful
  · exact lawful

theorem State.travelToLevel_lawful (lawful : s.level.Lawful s.levelling) (before : Travel) :
    (s.travelToLevel before).level.Lawful s.levelling := by
  unfold State.travelToLevel
  cases fitted : s.levelling with
  | false => rw [fitted] at lawful; exact lawful
  | true =>
    rw [fitted] at lawful
    rw [if_pos rfl]
    split_ifs
    · exact State.leavePaving_lawful lawful
    · exact State.returnToPaving_lawful lawful
    · exact State.testSettle_lawful lawful
    · exact lawful

theorem State.setSideMode_lawful (lawful : s.level.Lawful true) (m : SideMode) : (s.setSideMode m).level.Lawful true := by
  unfold State.setSideMode
  split_ifs with same auto settling
  · exact lawful
  · have resting : s.level.condition = .frozen ∨ s.level.condition = .settling := by simpa using settling
    have running : s.level.condition ≠ .none := by rcases resting with h | h <;> simp [h]
    refine ⟨⟨?_, nofun, lawful.core.mark, fun manual => ?_⟩, ⟨fun h => ?_, fun h => ?_⟩, nofun⟩
    · simpa [State.swapAuto, auto, Levelling.cut] using running
    · rw [State.swapAuto, auto] at manual; cases manual
    · replace h : s.level.condition = .hold := h
      rw [h] at resting; simp at resting
    · replace h : s.level.condition = .active := h
      rw [h] at resting; simp at resting
  · have moving : s.level.condition ≠ .frozen ∧ s.level.condition ≠ .settling := by simpa using settling
    have bare : s.level.resume = none := by
      cases record : s.level.resume with
      | none => rfl
      | some r => rcases lawful.core.resume (by simp [record]) with h | h <;> simp [h] at moving
    have unmarked : s.level.settleMark.isSome = false := by
      cases mark : s.level.settleMark with
      | none => rfl
      | some c => exact absurd (lawful.core.mark.1 (by simp [mark])) moving.2
    have captured := Levelling.capture_same
      (l := { s.level.cut s.now with mode := m, partner := s.partnerSlot.map (·.1) })
    unfold State.enterAuto
    dsimp only
    generalize Levelling.capture _ = l at captured ⊢
    have mode : isAuto l.mode = true := by rw [captured.mode]; exact auto
    have empty : l.resume.isSome = false := by rw [captured.resume]; simp [Levelling.cut, bare]
    have clear : l.settleMark.isSome = false := captured.mark.trans unmarked
    generalize l.judge _ = causes
    cases cause : causes.any with
    | true => exact ⟨⟨by simp [mode], by simp [empty], by simp [clear], by simp [mode]⟩, ⟨fun _ => cause, nofun⟩, nofun⟩
    | false => exact ⟨⟨by simp [mode], by simp [empty], by simp [clear], by simp [mode]⟩, ⟨nofun, fun _ => cause⟩, nofun⟩
  · exact ⟨⟨by simpa [State.leaveAuto] using auto, nofun, by simp [State.leaveAuto], fun _ => ⟨rfl, rfl⟩⟩, ⟨nofun, nofun⟩, nofun⟩

theorem Levelling.jog_lawful {l : Levelling} (lawful : l.Lawful true) (d : Direction) (n now : Nat) :
    (l.jog d n now).Lawful true := by
  unfold Levelling.jog
  split_ifs
  · unfold Levelling.jogReference
    split_ifs
    · have shifted := Levelling.setReference_same (l := l) l.mode (jogShift l.mode d (l.referenceOf l.mode))
      exact lawful.congr ⟨shifted.mode, shifted.condition, shifted.causes, by simp, shifted.mark, shifted.redo⟩ nofun
    · exact lawful
  · exact lawful.driven (fun _ h => h) nofun

/-! ## The period -/

theorem State.applyLevelPage_lawful (lawful : s.level.Lawful levelling) : s.applyLevelPage.level.Lawful levelling := by
  unfold State.applyLevelPage
  split_ifs
  · split
    · exact lawful.congr ⟨rfl, rfl, rfl, rfl, rfl, fun _ h => h⟩ fun _ h => h
    · exact lawful
  · exact lawful

theorem State.captureLate_lawful (lawful : s.level.Lawful levelling) : s.captureLate.level.Lawful levelling := by
  unfold State.captureLate
  split_ifs
  · split
    · exact lawful.congr ((Levelling.setReference_same _ _).captured _) fun _ h => (Levelling.setReference_driver _ _).trans h
    · exact lawful
  · exact lawful

theorem State.judgeSide_lawful (lawful : s.level.Lawful levelling) : s.judgeSide.level.Lawful levelling := by
  have chosen : Levelling.Lawful { s.level with partner := s.partnerSlot.map (·.1) } levelling :=
    lawful.congr ⟨rfl, rfl, rfl, rfl, rfl, fun _ h => h⟩ fun _ h => h
  unfold State.judgeSide
  dsimp only
  split_ifs with auto
  · exact chosen.judged auto _ _
  · exact chosen

theorem State.runControlLaw_lawful (lawful : s.level.Lawful levelling) : s.runControlLaw.level.Lawful levelling := by
  unfold State.runControlLaw
  split_ifs with auto
  · simp only [Bool.and_eq_true] at auto
    have fitted := lawful.fitted.fitted auto.1
    exact lawful.driven (fun _ h => h) fun unfitted => by rw [fitted] at unfitted; cases unfitted
  · exact lawful

theorem State.LevelAct.lawful {t : State} (act : s.LevelAct t) (lawful : s.level.Lawful s.levelling) :
    t.level.Lawful s.levelling := by
  have sensed (sensor : LevellingSensor) (r : Sensor) : (s.level.setSensor sensor r).Lawful s.levelling :=
    lawful.congr (Levelling.setSensor_same _ _) fun _ h => (Levelling.setSensor_driver _ _).trans h
  cases act with
  | reading sensor r =>
    unfold State.takeLevellingReading
    dsimp only
    split_ifs
    · exact sensed _ _
    · exact (sensed _ _).faulted _ _
    · exact lawful
  | silent sensor => exact (sensed _ _).faulted _ _
  | period =>
    have timed : Levelling.Lawful { s.level with periodTimer := s.level.periodTimer.map (· + Config.valvePeriod) } s.levelling :=
      lawful.congr ⟨rfl, rfl, rfl, rfl, rfl, fun _ h => h⟩ fun _ h => h
    exact State.runControlLaw_lawful (State.judgeSide_lawful (State.captureLate_lawful (State.applyLevelPage_lawful
      (s := { s with level := { s.level with periodTimer := s.level.periodTimer.map (· + Config.valvePeriod) } }) timed)))
  | endPulse => exact lawful.driven (fun _ h => by cases h) fun _ neutral => by simp [neutral, Driver.pulseEnded]
  | endDeadTime => exact lawful.driven (fun _ h => h) fun _ neutral => by simp [neutral, Driver.deadTimeOver]
  | mode m fitted run => rw [fitted] at lawful ⊢; exact State.setSideMode_lawful lawful m
  | jog d n fitted => rw [fitted] at lawful ⊢; exact Levelling.jog_lawful lawful d n s.now
  | cadence timer => exact lawful.congr ⟨rfl, rfl, rfl, rfl, rfl, fun _ h => h⟩ fun _ h => h
  | pending => exact lawful.congr ⟨rfl, rfl, rfl, rfl, rfl, fun _ h => h⟩ fun _ h => h

end

/-! ## The acts -/

section
variable {s t : State}

theorem State.startWaking_level (s : State) : s.startWaking.level = s.level := by
  unfold State.startWaking State.wakeRows
  split_ifs <;> rfl

theorem State.noticeCollection_level (s : State) (before : Bool) : (s.noticeCollection before).level = s.level := by
  rcases s.noticeCollection_cases before with ⟨same, -⟩ | ⟨inquiry, -⟩ | ⟨park, -⟩ | ⟨wakes, -⟩
  · rw [same]
  · rw [inquiry]
  · rw [park]
  · rw [wakes, State.startWaking_level]

/-- Of the station record's acts park entry alone reaches the side, and takes a cut (R175). -/
theorem State.StationAct.level (act : s.StationAct t) : t.level = s.level ∨ t.level = s.level.cut s.now := by
  cases act with
  | park o => exact .inr (State.RowFrame.level (s.enterPark_frame o))
  | wake =>
    unfold State.takeWake
    split
    · exact .inl s.startWaking_level
    all_goals exact .inl rfl
  | collect sender first count =>
    exact .inl ((State.noticeCollection_level _ _).trans (by rw [s.takeCollect_frame sender first count]))
  | collected o => exact .inl ((State.noticeCollection_level _ _).trans (by rw [s.collectEndSent_frame o]))
  | recordSent => exact .inl (by rw [s.recordSent_frame])
  | _ => exact .inl rfl

theorem State.Work.levelLawful (work : s.Work t) (lawful : s.level.Lawful s.levelling) : t.level.Lawful s.levelling := by
  cases work with
  | line act => rw [act.frame]; exact lawful
  | travel act =>
    cases act with
    | travel => exact lawful
    | toLevel before => exact State.travelToLevel_lawful lawful before
  | row act => rw [act.frame]; exact lawful
  | heat act => rw [act.frame]; exact lawful
  | level act => exact act.lawful lawful
  | feed act => rw [act.frame]; exact lawful
  | station act =>
    rcases act.level with same | cut
    · rw [same]; exact lawful
    · rw [cut]; exact lawful.cut s.now
  | store act => rw [act.frame]; exact lawful

theorem State.Work.levelling (work : s.Work t) : t.levelling = s.levelling := by
  unfold State.levelling
  rw [work.feed_or_kept.2]

theorem Levelling.atReset_lawful {d : Driver} {levelling : Bool} (neutral : levelling = false → d = .neutral) :
    (Levelling.atReset d).Lawful levelling :=
  ⟨⟨by simp [Levelling.atReset, isAuto], nofun, by simp [Levelling.atReset], fun _ => ⟨rfl, rfl⟩⟩, ⟨nofun, nofun⟩,
    fun unfitted => ⟨rfl, neutral unfitted⟩⟩

theorem Levelling.Lawful.started {l : Levelling} {p : Straps} (lawful : l.Lawful p.levelling) (now : Nat) :
    (l.started p now).Lawful p.levelling := by
  unfold Levelling.started
  split_ifs with fitted
  · exact lawful.congr ⟨rfl, rfl, rfl, rfl, rfl, fun _ h => h⟩ fun unfitted => by rw [fitted] at unfitted; cases unfitted
  · exact lawful.congr ⟨rfl, rfl, rfl, rfl, rfl, fun _ h => h⟩ fun _ h => h

theorem State.ResetAct.levelLawful (act : s.ResetAct t) (lawful : s.level.Lawful s.levelling) : t.level.Lawful t.levelling := by
  cases act with
  | warm =>
    refine Levelling.atReset_lawful fun unfitted => ?_
    rw [Driver.atWarmRestart, (lawful.fitted unfitted).2]
    rfl
  | prolong => exact lawful
  | started => exact Levelling.Lawful.started (p := s.straps) lawful _
  | powerOn => exact lawful
  | poweredOn straps since =>
    refine Levelling.Lawful.started (p := sampleStraps straps) (Levelling.atReset_lawful fun unfitted => ?_) _
    simp [Driver.atPowerOn, unfitted]

theorem State.Act.levelSound (act : s.Act t) (sound : s.LevelSound) : t.LevelSound := by
  rw [State.levelSound_iff] at *
  cases act with
  | work work =>
    rw [work.levelling]
    exact work.levelLawful sound
  | reset act => exact act.levelLawful sound

end

/-- Settles O55: every operation on the side's record keeps its laws, and reaches a driver only where a side is levelled. -/
theorem stepKeepsLevelSound : Obligations.StepKeepsLevelSound := by
  unfold Obligations.StepKeepsLevelSound
  intro s t sound stepped
  exact step_keeps (P := State.LevelSound) (fun _ _ _ sound => sound) (fun _ _ act => act.levelSound) sound stepped

end Sys2Proof.Machine
end

section
/-! PROOFS. The laws of the station state (Sections 8.2, 8.4 and 11.1 to 11.4). -/

namespace Sys2Proof.Machine

/-! ## The laws in three parts -/

/-- The station record and whether a collection is in flight: the park option, the waking timer and the wake owed stand each in its own
station state, and PARK-INQUIRY is PARK with a collection in flight (R173, R175 to R177). -/
structure Supervisor.ParkLaw (v : Supervisor) (collecting : Bool) : Prop where
  option : v.option.isSome = true ↔ v.station = .park ∨ v.station = .parkInquiry
  waking : v.wakingTimer.isSome = true ↔ v.station = .waking
  owed : v.wakeOwed = true → v.station = .parkInquiry
  park : v.station = .park → collecting = false
  inquiry : v.station = .parkInquiry → collecting = true

/-- While parked no side is in AUTO, both drives are OFF and the scanner is off (R174, R175). -/
def State.ParkedLaw (s : State) : Prop :=
  s.parked = true →
    isAuto s.level.mode = false ∧ s.feed.conveyor.mode = .off ∧ s.feed.auger.mode = .off ∧ s.rows.scannerOn = false

/-- A row is open only in RUN, at a station with a scanner and a page (R138). -/
def State.OpenRowLaw (s : State) : Prop :=
  s.rows.openRow.isSome = true → s.sup.station = .run ∧ s.straps.scanner = true ∧ s.rows.page.isSome = true

theorem State.stationSound_iff (s : State) :
    s.StationSound ↔ s.sup.ParkLaw s.ring.collection.inFlight ∧ s.ParkedLaw ∧ s.OpenRowLaw :=
  ⟨fun ⟨option, waking, owed, park, inquiry, parked, row⟩ => ⟨⟨option, waking, owed, park, inquiry⟩, parked, row⟩,
    fun ⟨⟨option, waking, owed, park, inquiry⟩, parked, row⟩ => ⟨option, waking, owed, park, inquiry, parked, row⟩⟩

theorem State.parked_congr {s t : State} (h : t.sup.station = s.sup.station) : t.parked = s.parked := by
  unfold State.parked
  rw [h]

theorem State.OpenRowLaw.closed {s : State} (law : s.OpenRowLaw) (still : s.sup.station ≠ .run) : s.rows.openRow = none := by
  cases open' : s.rows.openRow with
  | none => rfl
  | some r => exact absurd (law (by simp [open'])).1 still

/-! ## The station record and the collection -/

section
variable {v : Supervisor} {collecting : Bool}

theorem Supervisor.ParkLaw.congr {w : Supervisor} (law : v.ParkLaw collecting) (station : w.station = v.station)
    (option : w.option = v.option) (timer : w.wakingTimer = v.wakingTimer) (owed : w.wakeOwed = v.wakeOwed) :
    w.ParkLaw collecting := by
  refine ⟨?_, ?_, ?_, ?_, ?_⟩
  · rw [station, option]; exact law.option
  · rw [station, timer]; exact law.waking
  · rw [station, owed]; exact law.owed
  · rw [station]; exact law.park
  · rw [station]; exact law.inquiry

theorem State.startWaking_sup (s : State) :
    s.startWaking.sup =
      { s.sup with station := .waking, option := none, wakeOwed := false, wakingTimer := some (s.now + Config.wakingTime) } := by
  unfold State.startWaking State.wakeRows
  split_ifs <;> rfl

theorem State.startWaking_law (s : State) (collecting : Bool) : s.startWaking.sup.ParkLaw collecting := by
  rw [State.startWaking_sup]
  exact ⟨by simp, by simp, nofun, nofun, nofun⟩

/-- The notice of the collection's state brings the station record after it (R176). -/
theorem State.noticeCollection_law {s : State} {before : Bool} (law : s.sup.ParkLaw before) :
    (s.noticeCollection before).sup.ParkLaw s.ring.collection.inFlight := by
  rcases s.noticeCollection_cases before with ⟨same, stays⟩ | ⟨inquiry, park, flight⟩ | ⟨park, inquiry, flight, owed⟩ | ⟨wakes, -⟩
  · rw [same]
    refine ⟨law.option, law.waking, law.owed, fun park => ?_, fun inquiry => ?_⟩
    · rcases stays with stays | ⟨stays, -⟩
      · rw [stays]; exact law.park park
      · exact absurd ⟨park, law.park park⟩ stays
    · rcases stays with stays | ⟨-, stays⟩
      · rw [stays]; exact law.inquiry inquiry
      · exact absurd ⟨inquiry, law.inquiry inquiry⟩ stays
  · rw [inquiry]
    exact ⟨by simpa [park] using law.option, by simpa [park] using law.waking, fun _ => rfl, nofun, fun _ => flight⟩
  · rw [park]
    exact ⟨by simpa [inquiry] using law.option, by simpa [inquiry] using law.waking, fun h => by simp [owed] at h,
      fun _ => flight, nofun⟩
  · rw [wakes]
    exact State.startWaking_law _ _

end

/-! ## What the other blocks' acts leave -/

section
variable {s t : State}

/-- The station record's four fields of park and wake, and the collection, are the same. -/
structure State.SamePark (s t : State) : Prop where
  station : t.sup.station = s.sup.station
  option : t.sup.option = s.sup.option
  timer : t.sup.wakingTimer = s.sup.wakingTimer
  owed : t.sup.wakeOwed = s.sup.wakeOwed
  collection : t.ring.collection.inFlight = s.ring.collection.inFlight
  straps : t.straps = s.straps

theorem State.SamePark.law (same : s.SamePark t) (law : s.sup.ParkLaw s.ring.collection.inFlight) :
    t.sup.ParkLaw t.ring.collection.inFlight := by
  rw [same.collection]
  exact law.congr same.station same.option same.timer same.owed

theorem Ring.commit_collection (r : Ring) (row : Row) : (r.commit row).collection = r.collection := by
  unfold Ring.commit
  split_ifs
  · rfl
  · split <;> rfl

theorem State.RowAct.samePark (act : s.RowAct t) : s.SamePark t := by
  have frame := act.frame
  refine ⟨by rw [frame], by rw [frame], by rw [frame], by rw [frame], ?_, by rw [frame]; rfl⟩
  cases act with
  | rows => rfl
  | commit row => rw [State.commitRow_ring, Ring.commit_collection]
  | opens => rw [State.tryOpenRow_ring]
  | page => rw [State.applyRecordPage_ring]

/-- An act of another block than the station's leaves the station record's fields of park and wake and the collection. -/
theorem State.Work.station_or_samePark (work : s.Work t) : s.StationAct t ∨ s.SamePark t := by
  cases work with
  | station act => exact .inl act
  | row act => exact .inr act.samePark
  | travel act =>
    cases act with
    | travel => exact .inr ⟨rfl, rfl, rfl, rfl, rfl, rfl⟩
    | toLevel before => rw [s.travelToLevel_frame before]; exact .inr ⟨rfl, rfl, rfl, rfl, rfl, rfl⟩
  | line act => rw [act.frame]; exact .inr ⟨rfl, rfl, rfl, rfl, rfl, rfl⟩
  | heat act => rw [act.frame]; exact .inr ⟨rfl, rfl, rfl, rfl, rfl, rfl⟩
  | level act => rw [act.frame]; exact .inr ⟨rfl, rfl, rfl, rfl, rfl, rfl⟩
  | feed act => rw [act.frame]; exact .inr ⟨rfl, rfl, rfl, rfl, rfl, rfl⟩
  | store act => rw [act.frame]; exact .inr ⟨rfl, rfl, rfl, rfl, rfl, rfl⟩

/-! ## The modes while parked -/

theorem State.travelToLevel_mode (s : State) (before : Travel) : (s.travelToLevel before).level.mode = s.level.mode := by
  have ends : (s.level.settleEnd s.now).mode = s.level.mode := by
    obtain ⟨mode, -, -⟩ := s.level.resumeReference.resumeCondition_law s.now
    have moved : ∀ l : Levelling, (l.resumeMove s.level.settleCapture s.now).mode = l.mode := fun l => by
      unfold Levelling.resumeMove
      split
      · split_ifs <;> rfl
      · rfl
    exact (moved _).trans (mode.trans s.level.resumeReference_same.mode)
  unfold State.travelToLevel
  split_ifs
  · unfold State.leavePaving
    split_ifs
    · split <;> rfl
    · rfl
  · unfold State.returnToPaving
    split_ifs <;> rfl
  · unfold State.testSettle
    split
    · split_ifs
      · exact ends
      · rfl
    · rfl
  · rfl
  · rfl

theorem Levelling.faulted_mode (l : Levelling) (sensor : LevellingSensor) (now : Nat) : (l.faulted sensor now).mode = l.mode := by
  unfold Levelling.faulted
  split_ifs
  · exact Levelling.settleCondition_mode now
  · rfl

theorem State.startPeriod_mode (s : State) : s.startPeriod.level.mode = s.level.mode := by
  have page (u : State) : u.applyLevelPage.level.mode = u.level.mode := by
    unfold State.applyLevelPage
    split_ifs
    · split <;> rfl
    · rfl
  have capture (u : State) : u.captureLate.level.mode = u.level.mode := by
    unfold State.captureLate
    split_ifs
    · split
      · exact (Levelling.setReference_same _ _).mode
      · rfl
    · rfl
  have judge (u : State) : u.judgeSide.level.mode = u.level.mode := by
    unfold State.judgeSide
    dsimp only
    split_ifs
    · exact Levelling.settleCondition_mode _
    · rfl
  have law (u : State) : u.runControlLaw.level.mode = u.level.mode := by
    unfold State.runControlLaw
    split_ifs <;> rfl
  exact (law _).trans ((judge _).trans ((capture _).trans (page _)))

/-- Of the Levelling Controller's acts MODE alone changes the mode, and takes AUTO in RUN (R85). -/
theorem State.LevelAct.manual (act : s.LevelAct t) (parked : s.parked = true) (manual : isAuto s.level.mode = false) :
    isAuto t.level.mode = false := by
  cases act with
  | reading sensor r =>
    unfold State.takeLevellingReading
    dsimp only
    split_ifs
    · rw [(Levelling.setSensor_same _ _).mode]; exact manual
    · rw [Levelling.faulted_mode, (Levelling.setSensor_same _ _).mode]; exact manual
    · exact manual
  | silent sensor =>
    have same := (Levelling.faulted_mode _ sensor s.now).trans
      (Levelling.setSensor_same (l := s.level) sensor (s.level.sensor sensor).silent).mode
    exact (congrArg isAuto same).trans manual
  | period => rw [State.startPeriod_mode]; exact manual
  | mode m fitted run =>
    have still : isAuto m = false := by
      cases auto : isAuto m with
      | false => rfl
      | true => rw [State.parked, run auto] at parked; cases parked
    unfold State.setSideMode
    rw [still, if_neg Bool.false_ne_true]
    split_ifs
    · exact manual
    · exact still
  | jog d n fitted =>
    have same : (s.level.jog d n s.now).mode = s.level.mode := by
      unfold Levelling.jog
      rw [manual, if_neg Bool.false_ne_true]
    exact (congrArg isAuto same).trans manual
  | _ => exact manual

/-- One drive's record replaced by one that is OFF when it was. -/
theorem Feed.setDrive_off {f : Feed} {d : Drive} {r : DriveRecord} (off : (f.drive d).mode = .off → r.mode = .off)
    (rest : f.conveyor.mode = .off ∧ f.auger.mode = .off) :
    (f.setDrive d r).conveyor.mode = .off ∧ (f.setDrive d r).auger.mode = .off := by
  cases d with
  | conveyor => exact ⟨off rest.1, rest.2⟩
  | auger => exact ⟨rest.1, off rest.2⟩

/-- While parked no act of the Feed Controller sets a drive going (R119). -/
theorem State.FeedAct.off (act : s.FeedAct t) (parked : s.parked = true)
    (rest : s.feed.conveyor.mode = .off ∧ s.feed.auger.mode = .off) :
    t.feed.conveyor.mode = .off ∧ t.feed.auger.mode = .off := by
  cases act with
  | reading sensor r =>
    unfold State.takeFeedReading
    split_ifs
    · cases sensor <;> exact rest
    · exact rest
  | silent sensor => cases sensor <;> exact rest
  | mode d m n owner awake =>
    rcases awake with rfl | awake
    · exact Feed.setDrive_off (fun _ => DriveRecord.setMode_off n) rest
    · exact absurd parked awake
  | period =>
    have same (d : Drive) := State.applyFeedPage_drive
      { s with feed := { s.feed with periodTimer := s.feed.periodTimer.map (· + Config.controlPeriod) } } d
    have conveyor := congrArg DriveRecord.mode (same .conveyor)
    have auger := congrArg DriveRecord.mode (same .auger)
    exact ⟨(DriveRecord.runPeriod_mode _ _ _).trans (conveyor.trans rest.1),
      (DriveRecord.runPeriod_mode _ _ _).trans (auger.trans rest.2)⟩
  | holdOver d runs => exact Feed.setDrive_off (fun off => off) rest
  | pulse d =>
    unfold State.takeSpeedPulse
    split_ifs
    · exact Feed.setDrive_off (fun off => (DriveRecord.pulse_mode _ _).trans off) rest
    · exact rest
  | captureOver d => exact Feed.setDrive_off (fun off => off) rest
  | stall d runs => exact Feed.setDrive_off (fun off => off) rest
  | cadence timer => exact rest
  | pending => exact rest

/-! ## The scanner and the open row -/

/-- No act of the Row Builder powers the scanner, and a row that one opens opens by R138. -/
theorem State.RowAct.scanner (act : s.RowAct t) (off : s.rows.scannerOn = false) : t.rows.scannerOn = false := by
  cases act with
  | rows r scanner row page =>
    cases on : r.scannerOn with
    | false => rfl
    | true => rw [scanner on] at off; cases off
  | commit row =>
    unfold State.commitRow
    split_ifs <;> exact off
  | opens =>
    unfold State.tryOpenRow
    split
    · split_ifs <;> exact off
    · exact off
  | page =>
    unfold State.applyRecordPage
    split_ifs
    · split <;> exact off
    · exact off

theorem State.commitRow_rows (s : State) (row : Row) : (s.commitRow row).rows = s.rows := by
  unfold State.commitRow
  split_ifs <;> rfl

theorem State.tryOpenRow_page (s : State) : s.tryOpenRow.rows.page = s.rows.page := by
  unfold State.tryOpenRow
  split
  · split_ifs <;> rfl
  · rfl

theorem State.RowAct.openRowLaw (act : s.RowAct t) (law : s.OpenRowLaw) : t.OpenRowLaw := by
  have park := act.samePark
  unfold State.OpenRowLaw at *
  rw [park.station, park.straps]
  cases act with
  | rows r scanner row page => exact fun opened => page ▸ law (row opened)
  | commit row => rw [State.commitRow_rows]; exact law
  | opens =>
    cases row : s.rows.openRow with
    | none =>
      intro opened
      obtain ⟨page, scanner, run, -⟩ := (State.tryOpenRow_opens_iff row).1 opened
      exact ⟨run, scanner, by rw [State.tryOpenRow_page]; exact page⟩
    | some r =>
      have same : s.tryOpenRow = s := by simp [State.tryOpenRow, row]
      rw [same]
      exact law
  | page =>
    unfold State.applyRecordPage
    split_ifs
    · split
      · exact fun opened => ⟨(law opened).1, (law opened).2.1, rfl⟩
      · exact law
    · exact law

/-- A heat event marks an open row and opens none (R56). -/
theorem State.HeatAct.openRow (act : s.HeatAct t) : t.rows.openRow.isSome = s.rows.openRow.isSome := by
  refine State.HeatPieces.keeps (P := fun u => u.rows.openRow.isSome = s.rows.openRow.isSome) (fun u v piece same => ?_)
    act.pieces rfl
  cases piece with
  | note => simpa [State.noteTrip] using same
  | _ => exact same

/-! ## The acts of the station record -/

theorem State.offerAnswer_inFlight (s : State) : s.offerAnswer.ring.collection.inFlight = s.ring.collection.inFlight := by
  unfold State.offerAnswer
  dsimp only
  split_ifs
  · rfl
  · split <;> rfl

theorem State.answered_inFlight (s : State) {c : Collection} (same : c.inFlight = s.ring.collection.inFlight) :
    (s.setCollection c).offerAnswer.ring.collection.inFlight = s.ring.collection.inFlight :=
  (State.offerAnswer_inFlight _).trans same

theorem State.offerNextRecord_inFlight (s : State) :
    s.offerNextRecord.ring.collection.inFlight = s.ring.collection.inFlight := by
  unfold State.offerNextRecord
  dsimp only
  split
  · split_ifs
    · exact s.answered_inFlight rfl
    · split
      · exact s.answered_inFlight rfl
      · rfl
  · rfl

theorem State.recordSent_inFlight (s : State) : s.recordSent.ring.collection.inFlight = s.ring.collection.inFlight := by
  unfold State.recordSent
  dsimp only
  split_ifs
  · exact State.offerNextRecord_inFlight _
  · rfl

theorem State.RowActs.samePark (acts : s.RowActs t) : s.SamePark t := by
  induction acts with
  | refl => exact ⟨rfl, rfl, rfl, rfl, rfl, rfl⟩
  | tail _ act ih =>
    have next := act.samePark
    exact ⟨next.station.trans ih.station, next.option.trans ih.option, next.timer.trans ih.timer,
      next.owed.trans ih.owed, next.collection.trans ih.collection, next.straps.trans ih.straps⟩

theorem State.StationAct.parkLaw (act : s.StationAct t) (law : s.sup.ParkLaw s.ring.collection.inFlight) :
    t.sup.ParkLaw t.ring.collection.inFlight := by
  cases act with
  | park o =>
    refine State.SamePark.law (State.RowActs.samePark (State.parkRows_acts (s.parkedAndCut o))) ?_
    show (s.sup.parked o s.ring.collection.inFlight).ParkLaw s.ring.collection.inFlight
    cases s.ring.collection.inFlight <;>
      exact ⟨by simp [Supervisor.parked], by simp [Supervisor.parked], nofun, by simp [Supervisor.parked],
        by simp [Supervisor.parked]⟩
  | option o parked =>
    have parked := (State.parked_iff s).1 parked
    exact ⟨by simpa using parked, law.waking, nofun, law.park, law.inquiry⟩
  | wake =>
    unfold State.takeWake
    split
    · exact State.startWaking_law _ _
    next inquiry =>
      exact ⟨law.option, law.waking, fun _ => inquiry, law.park, law.inquiry⟩
    · exact law
    · exact law
  | awake runs =>
    have waking := law.waking.1 runs
    refine ⟨?_, by simp, fun owed => ?_, nofun, nofun⟩
    · simpa [waking] using law.option
    · have inquiry := law.owed owed
      rw [waking] at inquiry
      cases inquiry
  | collect sender first count =>
    rw [State.collectAndNotice, State.noticeCollection_ring]
    refine State.noticeCollection_law ?_
    rw [s.takeCollect_frame sender first count]
    exact law
  | collected o =>
    rw [State.noticeCollection_ring]
    refine State.noticeCollection_law ?_
    rw [s.collectEndSent_frame o]
    exact law
  | recordSent =>
    rw [State.recordSent_inFlight, s.recordSent_frame]
    exact law
  | release upto => exact law

theorem State.startWaking_not_parked (s : State) : ¬s.startWaking.parked = true := by
  rw [State.parked, State.startWaking_sup]
  simp

/-- The notice leaves the modes, and the rows but for a scanner that a wake powers. -/
theorem State.noticeCollection_parkedLaw {before : Bool} (law : s.ParkedLaw) : (s.noticeCollection before).ParkedLaw := by
  rcases s.noticeCollection_cases before with ⟨same, -⟩ | ⟨inquiry, park, -⟩ | ⟨park, inquiry, -⟩ | ⟨wakes, -⟩
  · rw [same]; exact law
  · rw [inquiry]; exact fun _ => law (by simp [State.parked, park])
  · rw [park]; exact fun _ => law (by simp [State.parked, inquiry])
  · rw [wakes]; exact fun parked => absurd parked (State.startWaking_not_parked _)

theorem State.StationAct.parkedLaw (act : s.StationAct t) (law : s.ParkedLaw) : t.ParkedLaw := by
  cases act with
  | park o manual conveyor auger =>
    intro _
    have frame := s.enterPark_frame o
    refine ⟨?_, ?_, ?_, State.parkRows_scannerOn _⟩
    · rw [State.RowFrame.level frame]; exact manual
    · rw [State.RowFrame.feed frame]; exact conveyor
    · rw [State.RowFrame.feed frame]; exact auger
  | wake =>
    unfold State.takeWake
    split
    · exact fun parked => absurd parked s.startWaking_not_parked
    next inquiry => exact law
    · exact law
    · exact law
  | awake => exact fun parked => by simp [State.parked] at parked
  | collect sender first count =>
    refine State.noticeCollection_parkedLaw ?_
    rw [s.takeCollect_frame sender first count]
    exact law
  | collected o =>
    refine State.noticeCollection_parkedLaw ?_
    rw [s.collectEndSent_frame o]
    exact law
  | recordSent => rw [s.recordSent_frame]; exact law
  | _ => exact law

theorem State.startWaking_openRow (s : State) : s.startWaking.rows.openRow = s.rows.openRow := by
  unfold State.startWaking State.wakeRows
  split_ifs <;> rfl

theorem State.noticeCollection_openRowLaw {before : Bool} (law : s.OpenRowLaw) : (s.noticeCollection before).OpenRowLaw := by
  have shut (station : s.sup.station ≠ .run) : ¬s.rows.openRow.isSome = true := by simp [law.closed station]
  rcases s.noticeCollection_cases before with ⟨same, -⟩ | ⟨inquiry, park, -⟩ | ⟨park, inquiry, -⟩ | ⟨wakes, inquiry, -⟩
  · rw [same]; exact law
  · rw [inquiry]; exact fun opened => absurd opened (shut (by simp [park]))
  · rw [park]; exact fun opened => absurd opened (shut (by simp [inquiry]))
  · rw [wakes]
    intro opened
    rw [State.startWaking_openRow] at opened
    exact absurd opened (shut (by simp [inquiry]))

theorem State.StationAct.openRowLaw (act : s.StationAct t) (law : s.OpenRowLaw)
    (waking : s.sup.wakingTimer.isSome = true ↔ s.sup.station = .waking) : t.OpenRowLaw := by
  have shut (station : s.sup.station ≠ .run) : ¬s.rows.openRow.isSome = true := by simp [law.closed station]
  cases act with
  | park o =>
    intro opened
    have closed := State.parkRows_openRow (s := s.parkedAndCut o) (by
      show (s.sup.parked o s.ring.collection.inFlight).station ≠ .run
      cases s.ring.collection.inFlight <;> simp [Supervisor.parked])
    rw [State.enterPark_eq, closed] at opened
    cases opened
  | wake =>
    unfold State.takeWake
    split
    next park =>
      intro opened
      rw [State.startWaking_openRow] at opened
      exact absurd opened (shut (by simp [park]))
    all_goals exact law
  | awake runs => exact fun opened => absurd opened (shut (by simp [waking.1 runs]))
  | collect sender first count =>
    refine State.noticeCollection_openRowLaw ?_
    rw [s.takeCollect_frame sender first count]
    exact law
  | collected o =>
    refine State.noticeCollection_openRowLaw ?_
    rw [s.collectEndSent_frame o]
    exact law
  | recordSent => rw [s.recordSent_frame]; exact law
  | _ => exact law

/-! ## Every act -/

theorem State.Work.parkedLaw (work : s.Work t) (law : s.ParkedLaw) : t.ParkedLaw := by
  rcases work.station_or_samePark with act | same
  · exact act.parkedLaw law
  · unfold State.ParkedLaw at *
    rw [State.parked_congr same.station]
    intro parked
    obtain ⟨manual, conveyor, auger, scanner⟩ := law parked
    cases work with
    | line act => rw [act.frame]; exact ⟨manual, conveyor, auger, scanner⟩
    | travel act =>
      cases act with
      | travel => exact ⟨manual, conveyor, auger, scanner⟩
      | toLevel before =>
        refine ⟨by rw [State.travelToLevel_mode]; exact manual, ?_⟩
        rw [s.travelToLevel_frame before]
        exact ⟨conveyor, auger, scanner⟩
    | row act =>
      refine ⟨?_, ?_, ?_, act.scanner scanner⟩ <;> rw [act.frame]
      · exact manual
      · exact conveyor
      · exact auger
    | heat act => rw [act.frame]; exact ⟨manual, conveyor, auger, scanner⟩
    | level act =>
      refine ⟨act.manual parked manual, ?_⟩
      rw [act.frame]
      exact ⟨conveyor, auger, scanner⟩
    | feed act =>
      obtain ⟨conveyor, auger⟩ := act.off parked ⟨conveyor, auger⟩
      exact ⟨by rw [act.frame]; exact manual, conveyor, auger, by rw [act.frame]; exact scanner⟩
    | station act => exact act.parkedLaw law (State.parked_congr same.station ▸ parked)
    | store act => rw [act.frame]; exact ⟨manual, conveyor, auger, scanner⟩

theorem State.Work.openRowLaw (work : s.Work t) (law : s.OpenRowLaw)
    (waking : s.sup.wakingTimer.isSome = true ↔ s.sup.station = .waking) : t.OpenRowLaw := by
  cases work with
  | line act => rw [act.frame]; exact law
  | travel act =>
    cases act with
    | travel => exact law
    | toLevel before => rw [s.travelToLevel_frame before]; exact law
  | row act => exact act.openRowLaw law
  | heat act =>
    unfold State.OpenRowLaw
    rw [act.openRow, act.frame]
    exact law
  | level act => rw [act.frame]; exact law
  | feed act => rw [act.frame]; exact law
  | station act => exact act.openRowLaw law waking
  | store act => rw [act.frame]; exact law

theorem Supervisor.atReset_law (cause : ResetCause) : (Supervisor.atReset cause).ParkLaw false :=
  ⟨by simp [Supervisor.atReset], by simp [Supervisor.atReset], nofun, fun _ => rfl, nofun⟩

theorem Levelling.started_mode (l : Levelling) (p : Straps) (now : Nat) : (l.started p now).mode = l.mode := by
  unfold Levelling.started
  split_ifs <;> rfl

theorem State.Act.stationSound (act : s.Act t) (sound : s.StationSound) : t.StationSound := by
  rw [State.stationSound_iff] at *
  obtain ⟨park, parked, row⟩ := sound
  cases act with
  | work work =>
    refine ⟨?_, work.parkedLaw parked, work.openRowLaw row park.waking⟩
    rcases work.station_or_samePark with act | same
    · exact act.parkLaw park
    · exact same.law park
  | reset act =>
    cases act with
    | warm => exact ⟨Supervisor.atReset_law _, nofun, nofun⟩
    | prolong => exact ⟨park, parked, row⟩
    | started =>
      refine ⟨park.congr rfl rfl rfl rfl, fun still => ?_, fun opened => row opened⟩
      obtain ⟨manual, rest⟩ := parked still
      exact ⟨(congrArg isAuto (Levelling.started_mode _ _ _)).trans manual, rest⟩
    | powerOn => exact ⟨park, parked, row⟩
    | poweredOn => exact ⟨(Supervisor.atReset_law .powerOn).congr rfl rfl rfl rfl, nofun, nofun⟩

end

/-- Settles O58: the station record's own acts move it between its states, MODE and JOG are refused while parked, and a row opens in
RUN alone. -/
theorem stepKeepsStationSound : Obligations.StepKeepsStationSound := by
  unfold Obligations.StepKeepsStationSound
  intro s t sound stepped
  exact step_keeps (P := State.StationSound) (fun _ _ _ sound => sound) (fun _ _ act => act.stationSound) sound stepped

end Sys2Proof.Machine
end

section
/-! PROOFS. Every held and every applied page lies in its ranges (Section 10.1), and no STATUS offer is owed between events
(Section 10.4). -/

namespace Sys2Proof.Machine

/-! ## The ranges of a page that is taken -/

theorem clampNat_within {low high : Nat} (ordered : low ≤ high) (n : Nat) : low ≤ clampNat low high n ∧ clampNat low high n ≤ high := by
  rw [clampNat_eq ordered]
  omega

theorem HeatPage.ofFields_inRange (f : HeatFields) : (HeatPage.ofFields f).InRange := by
  have capacity := clampNat_within (show 0 ≤ 6000 by decide) f.capacity
  have setpoint := clampNat_within (show 80 ≤ 180 by decide) f.setpoint
  have band := clampNat_within (show 2 ≤ 40 by decide) f.band
  have parkSetpoint := clampNat_within (show 60 ≤ 120 by decide) f.parkSetpoint
  have voltage := clampNat_within (show 200 ≤ 480 by decide) f.nominalVoltage
  have sag := clampNat_within (show 70 ≤ 98 by decide) f.sagPercent
  exact ⟨capacity.2, setpoint.1, setpoint.2, band.1, band.2, parkSetpoint.1, parkSetpoint.2, voltage.1, voltage.2, sag.1, sag.2⟩

theorem LevelPage.ofFields_inRange (f : LevelFields) : (LevelPage.ofFields f).InRange := by
  have gradeDeadband := clampNat_within (show 5 ≤ 100 by decide) f.gradeDeadband
  have slopeDeadband := clampNat_within (show 2 ≤ 100 by decide) f.slopeDeadband
  have gradeGain := clampNat_within (show 1 ≤ 100 by decide) f.gradeGain
  have slopeGain := clampNat_within (show 1 ≤ 100 by decide) f.slopeGain
  have minPulse := clampNat_within (show 5 ≤ 50 by decide) f.minPulse
  have deadTime := clampNat_within (show 0 ≤ 500 by decide) f.deadTime
  have settle := clampNat_within (show 10 ≤ 200 by decide) f.settleDistance
  exact ⟨gradeDeadband.1, gradeDeadband.2, slopeDeadband.1, slopeDeadband.2, gradeGain.1, gradeGain.2, slopeGain.1,
    slopeGain.2, minPulse.1, minPulse.2, deadTime.2, settle.1, settle.2⟩

theorem clampGains_inRange (g : FeedGains) : FeedGains.InRange (clampGains g) := by
  have kff := clampNat_within (show 0 ≤ 100 by decide) g.kff
  have kl := clampNat_within (show 0 ≤ 50 by decide) g.kl
  have setpoint := clampNat_within (show 10 ≤ 90 by decide) g.setpoint
  exact ⟨kff.2, kl.2, setpoint.1, setpoint.2⟩

theorem FeedPage.ofFields_inRange (f : FeedFields) : (FeedPage.ofFields f).InRange := by
  have boost := clampNat_within (show 0 ≤ 30 by decide) f.boost
  have stall := clampNat_within (show 500 ≤ 5000 by decide) f.stallTime
  exact ⟨clampGains_inRange _, clampGains_inRange _, boost.2, stall.1, stall.2⟩

theorem clampWindow_inRange (w : MarkWindow) : MarkWindow.InRange (clampWindow w) := by
  have tag := clampNat_within (show 1 ≤ 15 by decide) w.tag
  have start := clampNat_within (Nat.zero_le Config.maxChainage) w.start
  have length := clampNat_within (show 1 ≤ 100000 by decide) w.length
  exact ⟨tag.1, tag.2, start.2, length.1, length.2⟩

theorem RecordPage.ofFields_inRange (f : RecordFields) : (RecordPage.ofFields f).InRange := by
  have cold := clampNat_within (show 80 ≤ 160 by decide) f.coldThreshold
  refine ⟨?_, cold.1, cold.2, fun i => ?_⟩
  · show rowStepOf f.rowStep = 25 ∨ rowStepOf f.rowStep = 50 ∨ rowStepOf f.rowStep = 100 ∨ rowStepOf f.rowStep = 200
    unfold rowStepOf
    split_ifs <;> simp
  · fin_cases i <;> exact clampWindow_inRange _

theorem TravelPage.ofFields_inRange (f : TravelFields) : (TravelPage.ofFields f).InRange := by
  have pulses := clampNat_within (show 100 ≤ 20000 by decide) f.pulsesPerMetre
  have stop := clampNat_within (show 1 ≤ 10 by decide) f.stopTime
  exact ⟨pulses.1, pulses.2, stop.1, stop.2⟩

/-! ## A page is applied from the Settings Store alone -/

/-- The applied page stays, or is the one held. -/
def AppliedFrom {α : Type} (held : Option (Held α)) (old new : Option α) : Prop :=
  new = old ∨ ∃ h, held = some h ∧ new = some h.page

section
variable {α : Type} {held : Option (Held α)} {old new newer : Option α}

theorem AppliedFrom.stays (held : Option (Held α)) (old : Option α) : AppliedFrom held old old := .inl rfl

theorem AppliedFrom.trans (h : AppliedFrom held old new) (k : AppliedFrom held new newer) : AppliedFrom held old newer := by
  rcases k with rfl | applied
  · exact h
  · exact .inr applied

/-- What every held page and the applied page satisfy, the page applied next satisfies. -/
theorem AppliedFrom.keeps {P : α → Prop} (h : AppliedFrom held old new) (ofHeld : ∀ x, held = some x → P x.page)
    (ofOld : ∀ p, old = some p → P p) (p : α) (applied : new = some p) : P p := by
  rcases h with rfl | ⟨x, held, same⟩
  · exact ofOld p applied
  · rw [same] at applied
    cases applied
    exact ofHeld x held

end

section
variable {s t : State}

/-- The Settings Store is the same, and each block's page stays or is the one held. -/
structure State.AppliesHeld (s t : State) : Prop where
  settings : t.settings = s.settings
  heat : AppliedFrom s.settings.heat s.heat.page t.heat.page
  level : AppliedFrom s.settings.level s.level.page t.level.page
  feed : AppliedFrom s.settings.feed s.feed.page t.feed.page
  record : AppliedFrom s.settings.record s.rows.page t.rows.page
  travel : AppliedFrom s.settings.travel s.travel.page t.travel.page

theorem State.AppliesHeld.same (settings : t.settings = s.settings) (heat : t.heat.page = s.heat.page)
    (level : t.level.page = s.level.page) (feed : t.feed.page = s.feed.page) (record : t.rows.page = s.rows.page)
    (travel : t.travel.page = s.travel.page) : s.AppliesHeld t :=
  ⟨settings, .inl heat, .inl level, .inl feed, .inl record, .inl travel⟩

theorem State.AppliesHeld.refl (s : State) : s.AppliesHeld s := .same rfl rfl rfl rfl rfl rfl

theorem State.AppliesHeld.trans {u : State} (h : s.AppliesHeld t) (k : t.AppliesHeld u) : s.AppliesHeld u where
  settings := k.settings.trans h.settings
  heat := h.heat.trans (h.settings ▸ k.heat)
  level := h.level.trans (h.settings ▸ k.level)
  feed := h.feed.trans (h.settings ▸ k.feed)
  record := h.record.trans (h.settings ▸ k.record)
  travel := h.travel.trans (h.settings ▸ k.travel)

theorem State.AppliesHeld.pagesSound (applies : s.AppliesHeld t) (sound : s.PagesSound) : t.PagesSound := by
  obtain ⟨heldHeat, heldLevel, heldFeed, heldRecord, heldTravel, heat, level, feed, record, travel⟩ := sound
  unfold State.PagesSound
  rw [applies.settings]
  exact ⟨heldHeat, heldLevel, heldFeed, heldRecord, heldTravel, applies.heat.keeps heldHeat heat,
    applies.level.keeps heldLevel level, applies.feed.keeps heldFeed feed, applies.record.keeps heldRecord record,
    applies.travel.keeps heldTravel travel⟩

theorem State.HeatAct.appliesHeld (act : s.HeatAct t) : s.AppliesHeld t := by
  refine State.HeatPieces.keeps (P := s.AppliesHeld) (fun u v piece applies => applies.trans ?_) act.pieces (.refl s)
  cases piece with
  | heat h page => exact .same rfl page rfl rfl rfl rfl
  | apply h held holds page =>
    exact ⟨rfl, .inr ⟨held, holds, page⟩, .stays _ _, .stays _ _, .stays _ _, .stays _ _⟩
  | _ => exact .same rfl rfl rfl rfl rfl rfl

theorem State.RowAct.appliesHeld (act : s.RowAct t) : s.AppliesHeld t := by
  have frame := act.frame
  refine ⟨by rw [frame], .inl (by rw [frame]), .inl (by rw [frame]), .inl (by rw [frame]), ?_, .inl (by rw [frame])⟩
  cases act with
  | rows r scanner row page => exact .inl page
  | commit row => rw [State.commitRow_rows]; exact .stays _ _
  | opens => rw [State.tryOpenRow_page]; exact .stays _ _
  | page =>
    unfold State.applyRecordPage
    split_ifs
    · split
      next held holds => exact .inr ⟨held, holds, rfl⟩
      · exact .stays _ _
    · exact .stays _ _

theorem State.RowActs.appliesHeld (acts : s.RowActs t) : s.AppliesHeld t := by
  induction acts with
  | refl => exact .refl s
  | tail _ act ih => exact ih.trans act.appliesHeld

/-! ## The side's page -/

theorem Levelling.setReference_page (l : Levelling) (m : SideMode) (v : Int) : (l.setReference m v).page = l.page := by
  unfold Levelling.setReference
  split_ifs <;> rfl

theorem Levelling.capture_page (l : Levelling) : l.capture.page = l.page := by
  unfold Levelling.capture
  split
  · exact l.setReference_page _ _
  · rfl

theorem Levelling.settleCondition_page (l : Levelling) (now : Nat) : (l.settleCondition now).page = l.page := by
  unfold Levelling.settleCondition
  split_ifs <;> rfl

theorem Levelling.faulted_page (l : Levelling) (sensor : LevellingSensor) (now : Nat) : (l.faulted sensor now).page = l.page := by
  unfold Levelling.faulted
  split_ifs
  · exact Levelling.settleCondition_page _ _
  · rfl

theorem Levelling.setSensor_page (l : Levelling) (sensor : LevellingSensor) (r : Sensor) :
    (l.setSensor sensor r).page = l.page := by
  cases sensor <;> rfl

theorem Levelling.settleEnd_page (l : Levelling) (now : Nat) : (l.settleEnd now).page = l.page := by
  have reference : l.resumeReference.page = l.page := by
    unfold Levelling.resumeReference
    split_ifs
    · exact l.capture_page
    · split
      · split
        · exact l.setReference_page _ _
        · rfl
      · exact l.capture_page
  have condition : (l.resumeReference.resumeCondition now).page = l.page := by
    unfold Levelling.resumeCondition
    split_ifs <;> exact reference
  have moved (k : Levelling) : (k.resumeMove l.settleCapture now).page = k.page := by
    unfold Levelling.resumeMove
    split
    · split_ifs <;> rfl
    · rfl
  exact (moved _).trans condition

theorem State.travelToLevel_page (s : State) (before : Travel) : (s.travelToLevel before).level.page = s.level.page := by
  unfold State.travelToLevel
  split_ifs
  · unfold State.leavePaving
    split_ifs
    · split <;> rfl
    · rfl
  · unfold State.returnToPaving
    split_ifs <;> rfl
  · unfold State.testSettle
    split
    · split_ifs
      · exact s.level.settleEnd_page s.now
      · rfl
    · rfl
  · rfl
  · rfl

theorem State.startPeriod_page (s : State) : AppliedFrom s.settings.level s.level.page s.startPeriod.level.page := by
  have capture (u : State) : u.captureLate.level.page = u.level.page := by
    unfold State.captureLate
    split_ifs
    · split
      · exact u.level.setReference_page _ _
      · rfl
    · rfl
  have judge (u : State) : u.judgeSide.level.page = u.level.page := by
    unfold State.judgeSide
    dsimp only
    split_ifs
    · exact Levelling.settleCondition_page _ _
    · rfl
  have law (u : State) : u.runControlLaw.level.page = u.level.page := by
    unfold State.runControlLaw
    split_ifs <;> rfl
  have page (u : State) : AppliedFrom u.settings.level u.level.page u.applyLevelPage.level.page := by
    unfold State.applyLevelPage
    split_ifs
    · split
      next held holds => exact .inr ⟨held, holds, rfl⟩
      · exact .stays _ _
    · exact .stays _ _
  unfold State.startPeriod
  rw [law, judge, capture]
  exact page { s with level := { s.level with periodTimer := s.level.periodTimer.map (· + Config.valvePeriod) } }

theorem State.setSideMode_page (s : State) (m : SideMode) : (s.setSideMode m).level.page = s.level.page := by
  unfold State.setSideMode
  split_ifs
  · rfl
  · rfl
  · exact Levelling.capture_page _
  · rfl

theorem Levelling.jog_page (l : Levelling) (d : Direction) (n now : Nat) : (l.jog d n now).page = l.page := by
  unfold Levelling.jog
  split_ifs
  · unfold Levelling.jogReference
    split_ifs
    · exact l.setReference_page _ _
    · rfl
  · rfl

theorem State.LevelAct.page (act : s.LevelAct t) : AppliedFrom s.settings.level s.level.page t.level.page := by
  cases act with
  | reading sensor r =>
    refine .inl ?_
    unfold State.takeLevellingReading
    dsimp only
    split_ifs
    · exact s.level.setSensor_page _ _
    · exact (Levelling.faulted_page _ _ _).trans (s.level.setSensor_page _ _)
    · rfl
  | silent sensor => exact .inl ((Levelling.faulted_page _ _ _).trans (s.level.setSensor_page _ _))
  | period => exact s.startPeriod_page
  | mode m => exact .inl (s.setSideMode_page m)
  | jog d n => exact .inl (s.level.jog_page d n s.now)
  | _ => exact .stays _ _

/-! ## The drives' page -/

theorem Feed.setDrive_page (f : Feed) (d : Drive) (r : DriveRecord) : (f.setDrive d r).page = f.page := by
  cases d <;> rfl

theorem State.FeedAct.page (act : s.FeedAct t) : AppliedFrom s.settings.feed s.feed.page t.feed.page := by
  cases act with
  | reading sensor r =>
    unfold State.takeFeedReading
    split_ifs
    · cases sensor <;> exact .stays _ _
    · exact .stays _ _
  | silent sensor => cases sensor <;> exact .stays _ _
  | period =>
    unfold State.controlDrives State.applyFeedPage
    dsimp only
    split_ifs
    · split
      next held holds => exact .inr ⟨held, holds, rfl⟩
      · exact .stays _ _
    · exact .stays _ _
  | pulse d =>
    unfold State.takeSpeedPulse
    split_ifs
    · exact .inl (s.feed.setDrive_page _ _)
    · exact .stays _ _
  | mode d => exact .inl (s.feed.setDrive_page _ _)
  | holdOver d => exact .inl (s.feed.setDrive_page _ _)
  | captureOver d => exact .inl (s.feed.setDrive_page _ _)
  | stall d => exact .inl (s.feed.setDrive_page _ _)
  | _ => exact .stays _ _

/-! ## The station's, the travel record's and the stores' acts -/

theorem State.startWaking_appliesHeld (s : State) : s.AppliesHeld s.startWaking := by
  unfold State.startWaking State.wakeRows
  split_ifs <;> exact .same rfl rfl rfl rfl rfl rfl

theorem State.noticeCollection_appliesHeld (s : State) (before : Bool) : s.AppliesHeld (s.noticeCollection before) := by
  rcases s.noticeCollection_cases before with ⟨same, -⟩ | ⟨inquiry, -⟩ | ⟨park, -⟩ | ⟨wakes, -⟩
  · rw [same]; exact .refl s
  · rw [inquiry]; exact .same rfl rfl rfl rfl rfl rfl
  · rw [park]; exact .same rfl rfl rfl rfl rfl rfl
  · rw [wakes]
    exact .trans (t := { s with sup := { s.sup with station := .park } }) (.same rfl rfl rfl rfl rfl rfl)
      (State.startWaking_appliesHeld _)

theorem State.CollectFrame.appliesHeld (frame : State.CollectFrame s t) : s.AppliesHeld t := by
  rw [frame]
  exact .same rfl rfl rfl rfl rfl rfl

theorem State.StationAct.appliesHeld (act : s.StationAct t) : s.AppliesHeld t := by
  cases act with
  | park o =>
    exact .trans (t := s.parkedAndCut o) (.same rfl rfl rfl rfl rfl rfl)
      (State.RowActs.appliesHeld (State.parkRows_acts (s.parkedAndCut o)))
  | wake =>
    unfold State.takeWake
    split
    · exact s.startWaking_appliesHeld
    all_goals exact .same rfl rfl rfl rfl rfl rfl
  | collect sender first count =>
    exact (s.takeCollect_frame sender first count).appliesHeld.trans (State.noticeCollection_appliesHeld _ _)
  | collected o => exact (s.collectEndSent_frame o).appliesHeld.trans (State.noticeCollection_appliesHeld _ _)
  | recordSent => exact s.recordSent_frame.appliesHeld
  | _ => exact .same rfl rfl rfl rfl rfl rfl

/-- But for the TRAVEL page applied, a next travel record keeps its page. -/
theorem State.TravelNext.page_or_taken {u : Travel} (next : s.TravelNext u) :
    u.page = s.travel.page ∨ ∃ f, u.page = some (TravelPage.ofFields f) := by
  cases next with
  | pair before after now =>
    have pulse (v : Travel) (forward : Bool) : (v.pulse forward now).page = v.page := by
      unfold Travel.pulse
      split
      · rfl
      · exact (Travel.moveTo_keeps _ _ _).2.2.2.2.2
    have stepped (forward : Bool) : (s.travel.step forward now).page = s.travel.page := by
      unfold Travel.step
      generalize (if forward = true then s.travel.steps + 1 else s.travel.steps - 1) = steps
      dsimp only
      split_ifs
      · exact pulse _ _
      · exact pulse _ _
      · rfl
    unfold Travel.pairChange
    split_ifs
    · exact .inl (stepped true)
    · exact .inl (stepped false)
    · exact .inl rfl
  | bin =>
    unfold Travel.closeBin
    split <;> exact .inl rfl
  | follow n c now => exact .inl (s.travel.follow_frame c now).1
  | change n c now => exact .inl ((s.travel.changeSource n).follow_frame c now).1
  | lose =>
    unfold Travel.loseSource
    dsimp only
    split_ifs <;> exact .inl rfl
  | page f =>
    refine .inr ⟨f, ?_⟩
    unfold Travel.applyPage
    dsimp only
    split_ifs <;> rfl
  | _ => exact .inl rfl

theorem agedPage_inRange {α : Type} {P : α → Prop} {held : Option (Held α)} (law : ∀ h, held = some h → P h.page) (now : Nat)
    (h : Held α) (found : agedPage held now = some h) : P h.page := by
  unfold agedPage at found
  obtain ⟨old, same, rfl⟩ := Option.map_eq_some_iff.1 found
  split_ifs <;> exact law old same

theorem State.StoreAct.pagesSound (act : s.StoreAct t) (sound : s.PagesSound) : t.PagesSound := by
  have kept := sound
  obtain ⟨heldHeat, heldLevel, heldFeed, heldRecord, heldTravel, applied⟩ := sound
  cases act with
  | pins p => exact kept
  | width r =>
    unfold State.takeWidth
    split_ifs
    · split <;> exact kept
    · exact kept
  | hold f =>
    cases f with
    | heat f => exact ⟨fun h same => by cases same; exact HeatPage.ofFields_inRange f, heldLevel, heldFeed, heldRecord, heldTravel, applied⟩
    | level f => exact ⟨heldHeat, fun h same => by cases same; exact LevelPage.ofFields_inRange f, heldFeed, heldRecord, heldTravel, applied⟩
    | feed f => exact ⟨heldHeat, heldLevel, fun h same => by cases same; exact FeedPage.ofFields_inRange f, heldRecord, heldTravel, applied⟩
    | record f => exact ⟨heldHeat, heldLevel, heldFeed, fun h same => by cases same; exact RecordPage.ofFields_inRange f, heldTravel, applied⟩
    | travel f => exact ⟨heldHeat, heldLevel, heldFeed, heldRecord, fun h same => by cases same; exact TravelPage.ofFields_inRange f, applied⟩
  | aged k =>
    cases k with
    | heat => exact ⟨agedPage_inRange heldHeat s.now, heldLevel, heldFeed, heldRecord, heldTravel, applied⟩
    | level => exact ⟨heldHeat, agedPage_inRange heldLevel s.now, heldFeed, heldRecord, heldTravel, applied⟩
    | feed => exact ⟨heldHeat, heldLevel, agedPage_inRange heldFeed s.now, heldRecord, heldTravel, applied⟩
    | record => exact ⟨heldHeat, heldLevel, heldFeed, agedPage_inRange heldRecord s.now, heldTravel, applied⟩
    | travel => exact ⟨heldHeat, heldLevel, heldFeed, heldRecord, agedPage_inRange heldTravel s.now, applied⟩

theorem State.Work.pagesSound (work : s.Work t) (sound : s.PagesSound) : t.PagesSound := by
  cases work with
  | line act =>
    refine State.AppliesHeld.pagesSound ?_ sound
    rw [act.frame]
    exact .same rfl rfl rfl rfl rfl rfl
  | travel act =>
    cases act with
    | travel u next =>
      obtain ⟨heldHeat, heldLevel, heldFeed, heldRecord, heldTravel, heat, level, feed, record, travel⟩ := sound
      refine ⟨heldHeat, heldLevel, heldFeed, heldRecord, heldTravel, heat, level, feed, record, fun p applied => ?_⟩
      rcases next.page_or_taken with same | ⟨f, same⟩
      · exact travel p (same ▸ applied)
      · cases same.symm.trans applied
        exact TravelPage.ofFields_inRange f
    | toLevel before =>
      have frame := s.travelToLevel_frame before
      exact State.AppliesHeld.pagesSound (.same (by rw [frame]) (by rw [frame]) (s.travelToLevel_page before)
        (by rw [frame]) (by rw [frame]) (by rw [frame])) sound
  | row act => exact act.appliesHeld.pagesSound sound
  | heat act => exact act.appliesHeld.pagesSound sound
  | level act =>
    have frame := act.frame
    exact State.AppliesHeld.pagesSound ⟨by rw [frame], .inl (by rw [frame]), act.page, .inl (by rw [frame]),
      .inl (by rw [frame]), .inl (by rw [frame])⟩ sound
  | feed act =>
    have frame := act.frame
    exact State.AppliesHeld.pagesSound ⟨by rw [frame], .inl (by rw [frame]), .inl (by rw [frame]), act.page,
      .inl (by rw [frame]), .inl (by rw [frame])⟩ sound
  | station act => exact act.appliesHeld.pagesSound sound
  | store act => exact act.pagesSound sound

theorem Levelling.started_page (l : Levelling) (p : Straps) (now : Nat) : (l.started p now).page = l.page := by
  unfold Levelling.started
  split_ifs <;> rfl

/-- A part that holds no page and applies none. -/
theorem State.PagesSound.of_none (settings : t.settings = .atReset) (heat : t.heat.page = none) (level : t.level.page = none)
    (feed : t.feed.page = none) (record : t.rows.page = none) (travel : t.travel.page = none) : t.PagesSound := by
  unfold State.PagesSound
  rw [settings, heat, level, feed, record, travel]
  simp [Settings.atReset]

theorem State.Act.pagesSound (act : s.Act t) (sound : s.PagesSound) : t.PagesSound := by
  cases act with
  | work work => exact work.pagesSound sound
  | reset act =>
    cases act with
    | warm => exact .of_none rfl rfl rfl rfl rfl rfl
    | prolong => exact sound
    | started => exact State.AppliesHeld.pagesSound (s := s) (.same rfl rfl (Levelling.started_page _ _ _) rfl rfl rfl) sound
    | powerOn => exact sound
    | poweredOn => exact .of_none rfl rfl (Levelling.started_page _ _ _) rfl rfl rfl

/-! ## The STATUS offer owed -/

theorem State.Work.phase (work : s.Work t) : t.phase = s.phase := by
  cases work with
  | line act => rw [act.frame]
  | travel act => rw [act.frame]
  | row act => rw [act.frame]
  | heat act => rw [act.frame]
  | level act => rw [act.frame]
  | feed act => rw [act.frame]
  | station act => rw [act.frame]
  | store act => rw [act.frame]

/-- What an event makes of a running part runs, or owes no offer (R178). -/
theorem State.Handles.settled {u : State} (handles : s.Handles u) (running : s.phase = .running) (sound : s.ReportSound) :
    u.phase = .running ∨ u.sup.offerDue = false := by
  rcases handles with chain | ⟨v, timer, held, cause, -, -, rfl⟩ | rfl
  · exact .inl (State.Works.keeps (P := fun u => u.phase = .running) (fun _ _ work same => work.phase.trans same)
      chain running)
  · exact .inr rfl
  · exact .inr sound

/-- The resets owe no offer: they make none, or end with the first report (R178, R179). -/
theorem exec_reset_offerDue {c : Instr} (own : Instr.OfReset c) (sound : s.ReportSound) :
    ∃ u, exec c s = .next u ∧ u.ReportSound := by
  rcases own with rfl | rfl | rfl | rfl | ⟨straps, rfl⟩
  · refine ⟨_, rfl, ?_⟩
    unfold State.restartTimeOver
    split
    · split_ifs
      · exact sound
      · rfl
      · exact sound
    · exact sound
  · refine ⟨_, rfl, ?_⟩
    unfold State.restartPinOn
    split
    · rfl
    · exact sound
    · exact sound
  · refine ⟨_, rfl, ?_⟩
    unfold State.restartPinOff
    split
    · rfl
    · exact sound
    · exact sound
  · exact ⟨_, rfl, sound⟩
  · refine ⟨_, rfl, ?_⟩
    unfold State.releasePowerOn
    split
    · split_ifs
      · rfl
      · exact sound
    · exact sound

theorem exec_reportSound {c : Instr} (sound : s.ReportSound) (taken : exec c s = .next t) : t.ReportSound := by
  by_cases running : s.phase = .running
  · rcases exec_takes running c with idle | ⟨u, handles, event⟩
    · cases idle.symm.trans taken
      exact sound
    · cases event.symm.trans taken
      by_cases still : u.phase = .running
      · exact State.reported_offerDue still
      · have settled := (handles.settled running sound).resolve_left still
        have unreported : State.reported s u = u := by simp [State.reported, still]
        rw [unreported]
        exact settled
  · by_cases own : Instr.OfReset c
    · obtain ⟨u, event, kept⟩ := exec_reset_offerDue own sound
      cases event.symm.trans taken
      exact kept
    · obtain ⟨u, event, pins⟩ := exec_halted running own
      cases event.symm.trans taken
      rw [pins]
      exact sound

end

/-- Settles O59: a page is applied from the Settings Store alone, which holds it clamped; and every event ends with the offer it
owes. -/
theorem stepKeepsPagesInRange : Obligations.StepKeepsPagesInRange := by
  unfold Obligations.StepKeepsPagesInRange
  intro s t stepped
  constructor
  · intro sound
    exact step_keeps (P := State.PagesSound) (fun _ _ _ sound => sound) (fun _ _ act => act.pagesSound) sound stepped
  · intro sound
    unfold step at stepped
    split at stepped
    · cases stepped
      exact sound
    next c rest _ => exact exec_reportSound (s := { s with pending := rest }) sound stepped

end Sys2Proof.Machine
end

section
/-! PROOFS. The laws of the heater outputs (Sections 3.1, 3.3 and 3.4) and of the shed factor and the shed handshake (Sections 4.4 and
4.5). -/

namespace Sys2Proof.Machine

/-! ## The laws of the heater -/

/-- One zone's record as it would stand in `s`: its output is on in its on-slots alone, an unfitted one stays IDLE and off, and none
regulates without a window and a page (R37, R39, R51). -/
structure State.ZoneLaw (s : State) (z : Fin 4) (r : Zone) : Prop where
  output : r.out = true → r.state = .regulating ∧ r.cut = false ∧ isOnSlot s.heat.slot (s.straps.offset z) r.duty = true
  unfitted : s.straps.zoneFitted z = false → r.state = .idle ∧ r.out = false
  regulating : r.state = .regulating → s.heat.supply = .running ∧ s.heat.page.isSome = true

/-- The laws of the Heater Controller, zone by zone. -/
structure State.HeatLaw (s : State) : Prop where
  zones : ∀ z, s.ZoneLaw z (s.heat.zones.get z)
  slot : s.heat.slot < Config.windowSlots
  pending : s.heat.pending = true → s.heat.supply = .running ∧ s.settings.heat.isSome = true

theorem State.heatSound_iff (s : State) : s.HeatSound ↔ s.HeatLaw :=
  ⟨fun ⟨zones, regulating, slot, pending⟩ =>
      ⟨fun z => ⟨(zones z).1, (zones z).2, regulating z⟩, slot, pending⟩,
    fun law => ⟨fun z => ⟨(law.zones z).output, (law.zones z).unfitted⟩, fun z => (law.zones z).regulating, law.slot,
      law.pending⟩⟩

section
variable {s t : State}

/-- The law of a zone rests on the slot, the straps, the supply and the page. -/
theorem State.ZoneLaw.congr {z : Fin 4} {r : Zone} (law : s.ZoneLaw z r) (slot : t.heat.slot = s.heat.slot)
    (straps : t.straps = s.straps) (supply : t.heat.supply = s.heat.supply) (page : s.heat.page.isSome = true → t.heat.page.isSome = true) :
    t.ZoneLaw z r := by
  refine ⟨?_, ?_, fun regulates => ?_⟩
  · rw [slot, straps]; exact law.output
  · rw [straps]; exact law.unfitted
  · obtain ⟨running, applied⟩ := law.regulating regulates
    exact ⟨supply.trans running, page applied⟩

/-- The laws rest on the heater's record, the straps and whether a HEAT page is held. -/
theorem State.HeatLaw.congr (law : s.HeatLaw) (heat : t.heat = s.heat) (straps : t.straps = s.straps)
    (held : s.settings.heat.isSome = true → t.settings.heat.isSome = true) : t.HeatLaw := by
  refine ⟨fun z => ?_, by rw [heat]; exact law.slot, fun pends => ?_⟩
  · rw [heat]
    exact (law.zones z).congr (by rw [heat]) straps (by rw [heat]) (by rw [heat]; exact id)
  · rw [heat] at pends ⊢
    exact ⟨(law.pending pends).1, held (law.pending pends).2⟩

theorem State.HeatLaw.setZone (law : s.HeatLaw) {z : Fin 4} {r : Zone} (zone : s.ZoneLaw z r) : (s.setZone z r).HeatLaw := by
  refine ⟨fun z' => ?_, law.slot, law.pending⟩
  refine State.ZoneLaw.congr (s := s) ?_ rfl rfl rfl id
  show s.ZoneLaw z' ((s.heat.zones.set z r).get z')
  rw [quad_get_set]
  split_ifs with same
  · rw [same]; exact zone
  · exact law.zones z'

theorem State.HeatLaw.mapZones (law : s.HeatLaw) {f : Fin 4 → Zone → Zone} (zones : ∀ z, s.ZoneLaw z (f z (s.heat.zones.get z))) :
    (s.mapZones f).HeatLaw := by
  refine ⟨fun z => ?_, law.slot, law.pending⟩
  refine State.ZoneLaw.congr (s := s) ?_ rfl rfl rfl id
  show s.ZoneLaw z ((Quad.ofFn fun z => f z (s.heat.zones.get z)).get z)
  rw [quad_get_ofFn]
  exact zones z

/-! ## Trips and their clearing -/

theorem State.ZoneLaw.trip (s : State) {z : Fin 4} (fitted : s.straps.zoneFitted z = true) (r : Zone) (cause : TripCause) :
    s.ZoneLaw z (r.trip cause) :=
  ⟨nofun, fun unfitted => (by rw [fitted] at unfitted; cases unfitted), nofun⟩

theorem State.HeatLaw.tripZone (law : s.HeatLaw) {z : Fin 4} (fitted : s.straps.zoneFitted z = true) (cause : TripCause) :
    (s.tripZone z cause).HeatLaw :=
  (law.setZone (State.ZoneLaw.trip s fitted (s.zone z) cause)).congr rfl rfl id

theorem State.HeatLaw.judgeZone (law : s.HeatLaw) (z : Fin 4) : (s.judgeZone z).HeatLaw := by
  unfold State.judgeZone
  split_ifs with judged
  · simp only [Bool.and_eq_true] at judged
    split
    · exact law.tripZone judged.1 _
    · exact law
  · exact law

theorem State.HeatLaw.clearZone (law : s.HeatLaw) (z : Fin 4) : (s.clearZone z).HeatLaw := by
  unfold State.clearZone
  split
  next cause tripped =>
    split_ifs with clears
    · simp only [Bool.and_eq_true] at clears
      have off : (s.zone z).out = false := by
        cases out : (s.zone z).out with
        | false => rfl
        | true => cases tripped.symm.trans ((law.zones z).output out).1
      have cleared : s.ZoneLaw z { s.zone z with state := .idle, openCount := 0 } :=
        ⟨fun on => (by rw [show (s.zone z).out = true from on] at off; cases off), fun _ => ⟨rfl, off⟩, nofun⟩
      exact (law.setZone cleared).judgeZone z
    · exact law
  · exact law

theorem State.HeatLaw.judgeOpen (law : s.HeatLaw) (z : Fin 4) : (s.judgeOpen z).HeatLaw := by
  have zone := law.zones z
  have counted (n : Nat) : s.ZoneLaw z { s.zone z with openCount := n } := ⟨zone.output, zone.unfitted, zone.regulating⟩
  unfold State.judgeOpen
  dsimp only
  split_ifs with tested
  · exact law.setZone (counted 0)
  · simp only [Bool.and_eq_true] at tested
    exact law.tripZone tested.1 _
  · exact law.setZone (counted _)
  · exact law

theorem State.HeatLaw.forZones (law : s.HeatLaw) {f : State → Fin 4 → State} (kept : ∀ t z, t.HeatLaw → (f t z).HeatLaw) :
    (s.forZones f).HeatLaw :=
  kept _ 3 (kept _ 2 (kept _ 1 (kept s 0 law)))

theorem State.HeatLaw.clearTrips (law : s.HeatLaw) : s.clearTrips.HeatLaw := law.forZones fun _ z kept => kept.clearZone z

/-! ## The HEAT page -/

theorem State.HeatLaw.applyHeatPage (law : s.HeatLaw) : s.applyHeatPage.HeatLaw := by
  unfold State.applyHeatPage
  split_ifs
  · split
    · exact ⟨fun z => (law.zones z).congr rfl rfl rfl fun _ => rfl, law.slot, nofun⟩
    · exact law
  · exact law

/-! ## A window's beginning -/

/-- What the beginning of a window, which sets each output afresh, needs of the zones before: no output's law, only the others'. -/
structure State.BareLaw (s : State) : Prop where
  unfitted : ∀ z, s.straps.zoneFitted z = false → (s.heat.zones.get z).state = .idle ∧ (s.heat.zones.get z).out = false
  regulating : ∀ z, (s.heat.zones.get z).state = .regulating → s.heat.supply = .running ∧ s.heat.page.isSome = true
  pending : s.heat.pending = true → s.heat.supply = .running ∧ s.settings.heat.isSome = true

theorem State.HeatLaw.bare (law : s.HeatLaw) : s.BareLaw :=
  ⟨fun z => (law.zones z).unfitted, fun z => (law.zones z).regulating, law.pending⟩

/-- The bare laws rest on the zones, the straps, the supply, the page and the pending flag. -/
theorem State.BareLaw.congr (law : s.BareLaw) (zones : t.heat.zones = s.heat.zones) (straps : t.straps = s.straps)
    (supply : t.heat.supply = s.heat.supply) (page : t.heat.page = s.heat.page) (pending : t.heat.pending = s.heat.pending)
    (held : t.settings.heat = s.settings.heat) : t.BareLaw := by
  refine ⟨?_, ?_, ?_⟩
  · rw [zones, straps]; exact law.unfitted
  · rw [zones, supply, page]; exact law.regulating
  · rw [pending, supply, held]; exact law.pending

theorem State.BareLaw.applyHeatPage (law : s.BareLaw) : s.applyHeatPage.BareLaw := by
  unfold State.applyHeatPage
  split_ifs
  · split
    · exact ⟨law.unfitted, fun z regulates => ⟨(law.regulating z regulates).1, rfl⟩, nofun⟩
    · exact law
  · exact law

/-- Where the heating draws, a window runs or starts under an applied page (R40). -/
theorem State.heating_draws (draws : s.heating.draws = true) : s.heat.supply ≠ .lost ∧ s.heat.page.isSome = true := by
  unfold State.heating at draws
  by_cases lost : s.heat.supply = .lost
  · rw [if_pos (by simp [lost])] at draws
    cases draws
  · refine ⟨lost, ?_⟩
    rw [if_neg (by simpa using lost)] at draws
    cases status : s.load.status with
    | shedding => rw [status] at draws; cases draws
    | shed => rw [status] at draws; cases draws
    | none =>
      rw [status] at draws
      dsimp only at draws
      split_ifs at draws with off absent
      · cases draws
      · cases draws
      · simpa [Option.isSome_iff_ne_none] using absent

/-- Steps 4 and 5: with a window running, a zone regulates where the heating draws, so under a page (R39, R48). -/
theorem State.BareLaw.demandZones (law : s.BareLaw) (running : s.heat.supply = .running) : s.demandZones.BareLaw := by
  refine ⟨fun z unfitted => ?_, fun z regulates => ?_, law.pending⟩
  · replace unfitted : s.straps.zoneFitted z = false := unfitted
    unfold State.demandZones State.mapZones Zone.atBoundary
    dsimp only
    rw [quad_get_ofFn, unfitted]
    exact law.unfitted z unfitted
  · unfold State.demandZones State.mapZones Zone.atBoundary at regulates
    dsimp only at regulates
    rw [quad_get_ofFn] at regulates
    refine ⟨running, ?_⟩
    split_ifs at regulates with fitted tripped draws
    · rw [regulates] at tripped
      cases tripped
    · exact (State.heating_draws draws).2
    · exact (law.regulating z regulates).2

theorem State.settleShed_heat (s : State) : s.settleShed.heat = s.heat := by
  unfold State.settleShed
  dsimp only
  split
  · split_ifs <;> rfl
  all_goals rfl

theorem Zone.setOutput_law {z : Fin 4} {r : Zone} (law : s.BareLaw) (zone : r.state = (s.heat.zones.get z).state)
    (out : r.out = (s.heat.zones.get z).out) (slot : Nat) :
    State.ZoneLaw { s with heat := { s.heat with slot := slot } } z
      (if s.straps.zoneFitted z then r.setOutput slot (s.straps.offset z) else r) := by
  split_ifs with fitted
  · refine ⟨fun on => ?_, fun unfitted => ?_, fun regulates => law.regulating z (zone ▸ regulates)⟩
    · have lit : r.state = .regulating ∧ r.cut = false ∧ isOnSlot slot (s.straps.offset z) r.duty = true := by
        simpa [Zone.setOutput, and_assoc] using on
      exact lit
    · rw [show s.straps.zoneFitted z = false from unfitted] at fitted
      cases fitted
  · have bare := law.unfitted z (by simpa using fitted)
    rw [← zone, ← out] at bare
    exact ⟨fun on => (by rw [bare.2] at on; cases on), fun _ => bare, fun regulates => law.regulating z (zone ▸ regulates)⟩

/-- Every output set for a slot of the window (R51). -/
theorem State.BareLaw.setOutputs (law : s.BareLaw) {slot : Nat} (inside : slot < Config.windowSlots) :
    (State.setOutputs { s with heat := { s.heat with slot := slot } }).HeatLaw := by
  refine ⟨fun z => ?_, inside, law.pending⟩
  refine State.ZoneLaw.congr (s := { s with heat := { s.heat with slot := slot } }) ?_ rfl rfl rfl id
  unfold State.setOutputs State.mapZones
  dsimp only
  rw [quad_get_ofFn]
  exact Zone.setOutput_law law rfl rfl slot

theorem State.BareLaw.loadWindow (law : s.BareLaw) : s.loadWindow.HeatLaw := by
  have loaded : (s.mapZones fun z r =>
      if s.straps.zoneFitted z then { r with duty := dutyOf (s.allocation z) s.straps.rating } else r).BareLaw := by
    refine ⟨fun z unfitted => ?_, fun z regulates => ?_, law.pending⟩
    · replace unfitted : s.straps.zoneFitted z = false := unfitted
      unfold State.mapZones
      dsimp only
      rw [quad_get_ofFn, unfitted]
      exact law.unfitted z unfitted
    · unfold State.mapZones at regulates
      dsimp only at regulates
      rw [quad_get_ofFn] at regulates
      split_ifs at regulates <;> exact law.regulating z regulates
  exact loaded.setOutputs (by decide)

/-- Steps 2 to 8 (R48). -/
theorem State.BareLaw.beginWindow (law : s.BareLaw) (running : s.heat.supply = .running) : s.beginWindow.HeatLaw := by
  have applied := law.applyHeatPage
  have still : s.applyHeatPage.heat.supply = .running := by
    unfold State.applyHeatPage
    split_ifs
    · split <;> exact running
    · exact running
  have heat := s.applyHeatPage.settleShed_heat
  have frame := s.applyHeatPage.settleShed_frame
  have settled : s.applyHeatPage.settleShed.BareLaw :=
    applied.congr (by rw [heat]) (by rw [frame]; rfl) (by rw [heat]) (by rw [heat]) (by rw [heat]) (by rw [frame])
  have demanded := settled.demandZones (by rw [heat]; exact still)
  have shared : s.applyHeatPage.settleShed.demandZones.takeShare.BareLaw := by
    have share := s.applyHeatPage.settleShed.demandZones.takeShare_heat
    have kept := s.applyHeatPage.settleShed.demandZones.takeShare_frame
    exact demanded.congr (by rw [share]) (by rw [kept]; rfl) (by rw [share]) (by rw [share]) (by rw [share]) (by rw [kept])
  have begun := shared.loadWindow
  unfold State.beginWindow
  rw [State.rotate_keeps]
  exact ⟨fun z => (begun.zones z).congr rfl rfl rfl id, begun.slot, begun.pending⟩

/-! ## Crossings -/

theorem State.HeatLaw.senseSlot (law : s.HeatLaw) (peak : Quad Nat) : (s.senseSlot peak).HeatLaw := by
  refine law.mapZones fun z => ?_
  split_ifs
  · exact ⟨(law.zones z).output, (law.zones z).unfitted, (law.zones z).regulating⟩
  · exact law.zones z

theorem State.judgeOpen_supply (s : State) (z : Fin 4) : (s.judgeOpen z).heat.supply = s.heat.supply := by
  unfold State.judgeOpen
  dsimp only
  split_ifs <;> rfl

theorem State.judgeSag_heat (s : State) (rms : Nat) : (s.judgeSag rms).heat = s.heat := by
  unfold State.judgeSag
  split <;> rfl

theorem State.HeatLaw.judgeWindow (law : s.HeatLaw) (rms : Nat) : (s.judgeWindow rms).HeatLaw := by
  have opened : (s.forZones fun t z => t.judgeOpen z).HeatLaw := law.forZones fun _ z kept => kept.judgeOpen z
  unfold State.judgeWindow
  generalize (s.forZones fun t z => t.judgeOpen z) = u at opened ⊢
  have frame := u.judgeSag_frame rms
  exact opened.congr (u.judgeSag_heat rms) (congrArg Identity.straps frame.identity) (by rw [frame]; exact id)

theorem State.HeatLaw.takeCrossing (law : s.HeatLaw) (rms : Nat) (peak : Quad Nat) : (s.takeCrossing rms peak).HeatLaw := by
  have timed {u : State} (kept : u.HeatLaw) : u.timeCrossing.HeatLaw :=
    ⟨fun z => (kept.zones z).congr rfl rfl rfl id, kept.slot, kept.pending⟩
  refine timed ?_
  split_ifs with runs
  · unfold State.crossRunning
    dsimp only
    split_ifs with inside
    · exact (law.senseSlot peak).bare.setOutputs inside
    · refine ((law.senseSlot peak).judgeWindow rms).bare.beginWindow ?_
      rw [State.judgeWindow, State.judgeSag_heat,
        State.forZones_keeps (fun t => t.heat.supply) (s.senseSlot peak) _ fun t z => t.judgeOpen_supply z]
      exact (s.windowRuns_iff).1 runs
  · unfold State.crossWaiting
    split_ifs
    · refine State.BareLaw.beginWindow ?_ rfl
      exact ⟨fun z => (law.zones z).unfitted, fun z regulates => ⟨rfl, ((law.zones z).regulating regulates).2⟩,
        fun pends => ⟨rfl, (law.pending pends).2⟩⟩
    · exact ⟨fun z => (law.zones z).congr rfl rfl rfl id, law.slot, law.pending⟩

/-! ## Supply loss, the mode and the samples -/

/-- At supply loss nothing regulates and every output is off (R45). -/
theorem State.HeatLaw.loseSupply (law : s.HeatLaw) : s.loseSupply.HeatLaw := by
  have lost (zones : Quad Zone) (off : ∀ z, (zones.get z).out = false ∧ (zones.get z).state ≠ .regulating ∧
      (s.straps.zoneFitted z = false → (zones.get z).state = .idle)) :
      State.HeatLaw (State.applyHeatPage { s with heat :=
        { s.heat with zones := zones, supply := .lost, runCount := 0, slot := 0, supplyTimer := none } }) := by
    have zone (u : State) (same : u.straps = s.straps) (z : Fin 4) : u.ZoneLaw z (zones.get z) := by
      obtain ⟨out, idle, unfitted⟩ := off z
      exact ⟨fun on => (by rw [out] at on; cases on), fun bare => ⟨unfitted (same ▸ bare), out⟩, fun h => absurd h idle⟩
    unfold State.applyHeatPage
    split_ifs with pends
    · split
      · exact ⟨fun z => zone _ (by rfl) z, Nat.zero_lt_succ _, nofun⟩
      next absent =>
        have held := (law.pending pends).2
        rw [show s.settings.heat = none from absent] at held
        cases held
    · exact ⟨fun z => zone _ (by rfl) z, Nat.zero_lt_succ _, fun h => absurd h pends⟩
  have load (u : State) (kept : u.HeatLaw) : u.loadNoSupply.HeatLaw := by
    have heat : u.loadNoSupply.heat = u.heat := by
      unfold State.loadNoSupply
      dsimp only
      split <;> rfl
    have frame := u.loadNoSupply_frame
    exact kept.congr heat (by rw [frame]; rfl) (by rw [frame]; exact id)
  refine load _ ?_
  by_cases runs : s.windowRuns = true
  · rw [if_pos runs]
    refine lost _ fun z => ?_
    unfold State.mapZones Zone.loseSupply
    dsimp only
    rw [quad_get_ofFn]
    refine ⟨rfl, ?_, fun unfitted => ?_⟩
    · dsimp only
      split_ifs with regulates
      · simp
      · simpa using regulates
    · simp [((law.zones z).unfitted unfitted).1]
  · rw [if_neg runs]
    refine lost s.heat.zones fun z => ?_
    have idle : (s.heat.zones.get z).state ≠ .regulating := fun regulates =>
      runs ((s.windowRuns_iff).2 ((law.zones z).regulating regulates).1)
    refine ⟨?_, idle, fun unfitted => ((law.zones z).unfitted unfitted).1⟩
    cases out : (s.heat.zones.get z).out with
    | false => rfl
    | true => exact absurd ((law.zones z).output out).1 idle

theorem State.HeatLaw.setHeatingMode (law : s.HeatLaw) (on : Bool) : (s.setHeatingMode on).HeatLaw := by
  have set : State.HeatLaw { s with heat := { s.heat with mode := on } } :=
    ⟨fun z => (law.zones z).congr rfl rfl rfl id, law.slot, law.pending⟩
  unfold State.setHeatingMode
  dsimp only
  split_ifs
  · exact law
  · exact set.clearTrips
  · refine set.mapZones fun z => ?_
    have zone := set.zones z
    unfold Zone.switchOff
    split_ifs
    · exact ⟨nofun, fun _ => ⟨rfl, rfl⟩, nofun⟩
    · exact zone

theorem State.HeatLaw.samplePlates (law : s.HeatLaw) (samples : Quad Reading) : (s.samplePlates samples).HeatLaw := by
  have timed : State.HeatLaw { s with heat := { s.heat with sensorTimer := s.heat.sensorTimer.map (· + Config.heatSensorPeriod) } } :=
    ⟨fun z => (law.zones z).congr rfl rfl rfl id, law.slot, law.pending⟩
  refine timed.forZones fun u z kept => ?_
  split_ifs
  · refine State.HeatLaw.judgeZone (kept.setZone ?_) z
    have zone := kept.zones z
    unfold Zone.sample
    split <;> exact ⟨zone.output, zone.unfitted, zone.regulating⟩
  · exact kept

theorem State.HeatLaw.watchCurrent (law : s.HeatLaw) (z : Fin 4) (current : Nat) : (s.watchCurrent z current).HeatLaw := by
  unfold State.watchCurrent
  split_ifs with high
  · simp only [Bool.and_eq_true] at high
    obtain ⟨⟨⟨out, -⟩, -⟩, -⟩ := high
    refine law.tripZone ?_ _
    cases fitted : s.straps.zoneFitted z with
    | true => rfl
    | false => cases out.symm.trans ((law.zones z).unfitted fitted).2
  · exact law

/-- What leaves the heater's record leaves its laws. -/
theorem State.HeatFrame.heatLaw (frame : State.HeatFrame s t) (heat : t.heat = s.heat) (law : s.HeatLaw) : t.HeatLaw :=
  law.congr heat (by rw [frame]; rfl) (by rw [frame]; exact id)

theorem State.HeatAct.heatLaw (act : s.HeatAct t) (law : s.HeatLaw) : t.HeatLaw := by
  have frame := act.frame
  cases act with
  | crossing rms peak => exact law.takeCrossing rms peak
  | supply =>
    unfold State.supplyExpired
    split_ifs
    · exact ⟨fun z => (law.zones z).congr rfl rfl rfl id, law.slot, law.pending⟩
    · exact law.loseSupply
  | idle =>
    refine frame.heatLaw ?_ law
    unfold State.idleDemand
    dsimp only
    split_ifs <;> rfl
  | sample samples => exact law.samplePlates samples
  | current z current => exact law.watchCurrent z current
  | judge => exact law.forZones fun _ z kept => kept.judgeZone z
  | mode on => exact law.setHeatingMode on
  | clear => exact law.clearTrips
  | shedAll =>
    refine frame.heatLaw ?_ law
    unfold State.takeShedAll
    split
    · split_ifs <;> rfl
    · split <;> rfl
    all_goals rfl
  | restore =>
    refine frame.heatLaw ?_ law
    unfold State.takeRestore
    split <;> rfl
  | demandSent c =>
    refine frame.heatLaw ?_ law
    unfold State.demandSent
    split_ifs <;> rfl
  | shedAckSent =>
    refine frame.heatLaw ?_ law
    unfold State.shedAckSent
    split_ifs <;> rfl
  | told held =>
    unfold State.tellHeat
    dsimp only
    split_ifs with runs
    · exact ⟨fun z => (law.zones z).congr rfl rfl rfl id, law.slot, fun _ => ⟨(s.windowRuns_iff).1 runs, held⟩⟩
    · obtain ⟨h, found⟩ := Option.isSome_iff_exists.1 held
      have applied : State.applyHeatPage { s with heat := { s.heat with pending := true } } =
          State.askStatus { s with heat := { s.heat with page := some h.page, pending := false } } := by
        simp [State.applyHeatPage, found]
      rw [applied]
      exact ⟨fun z => (law.zones z).congr rfl rfl rfl fun _ => rfl, law.slot, nofun⟩

/-! ## The heater's laws at every act -/

theorem State.StoreAct.held (act : s.StoreAct t) (held : s.settings.heat.isSome = true) : t.settings.heat.isSome = true := by
  cases act with
  | pins p => exact held
  | width r =>
    unfold State.takeWidth
    split_ifs
    · split <;> exact held
    · exact held
  | hold f =>
    cases f with
    | heat _ => rfl
    | _ => exact held
  | aged k => cases k <;> simpa [State.pageAged, agedPage] using held

theorem State.Work.heatLaw (work : s.Work t) (law : s.HeatLaw) : t.HeatLaw := by
  have straps := work.feed_or_kept.2
  cases work with
  | line act => exact law.congr (by rw [act.frame]) straps (by rw [act.frame]; exact id)
  | travel act => exact law.congr (by rw [act.frame]) straps (by rw [act.frame]; exact id)
  | row act => exact law.congr (by rw [act.frame]) straps (by rw [act.frame]; exact id)
  | heat act => exact act.heatLaw law
  | level act => exact law.congr (by rw [act.frame]) straps (by rw [act.frame]; exact id)
  | feed act => exact law.congr (by rw [act.frame]) straps (by rw [act.frame]; exact id)
  | station act => exact law.congr (by rw [act.frame]) straps (by rw [act.frame]; exact id)
  | store act => exact law.congr (by rw [act.frame]) straps act.held

/-- The heater as a reset leaves it: nothing regulates, nothing is on, nothing is pending. -/
theorem State.HeatLaw.of_reset (zones : t.heat.zones = Heat.atReset.zones) (slot : t.heat.slot = 0)
    (pending : t.heat.pending = false) : t.HeatLaw := by
  have zone (z : Fin 4) : Heat.atReset.zones.get z = .atReset := by fin_cases z <;> rfl
  refine ⟨fun z => ?_, by rw [slot]; decide, fun pends => by rw [pending] at pends; cases pends⟩
  rw [zones, zone z]
  exact ⟨nofun, fun _ => ⟨rfl, rfl⟩, nofun⟩

theorem State.Act.heatSound (act : s.Act t) (sound : s.HeatSound) : t.HeatSound := by
  rw [State.heatSound_iff] at *
  cases act with
  | work work => exact work.heatLaw sound
  | reset act =>
    cases act with
    | warm => exact .of_reset rfl rfl rfl
    | prolong => exact sound.congr rfl rfl id
    | started => exact ⟨fun z => (sound.zones z).congr rfl rfl rfl id, sound.slot, sound.pending⟩
    | powerOn => exact sound.congr rfl rfl id
    | poweredOn => exact .of_reset rfl rfl rfl

/-! ## The laws of the generator share -/

/-- The shed factor and the shed pair by themselves (R71, R73, R76). -/
structure Load.PairLaw (l : Load) : Prop where
  low : Config.minShedFactor ≤ l.factor
  high : l.factor ≤ Config.maxShedFactor
  standing : l.standing = true → l.status ≠ .none
  ack : l.ack ≠ .notDue → l.standing = true
  due : l.ack = .awaitingDemand ∨ l.ack = .waiting → l.status = .shed

/-- SHEDDING while a window runs alone (R73, R78). -/
def State.SheddingLaw (s : State) : Prop := s.load.status = .shedding → s.heat.supply = .running

theorem State.loadSound_iff (s : State) : s.LoadSound ↔ s.load.PairLaw ∧ s.SheddingLaw :=
  ⟨fun ⟨low, high, standing, shedding, ack, due⟩ => ⟨⟨low, high, standing, ack, due⟩, shedding⟩,
    fun ⟨⟨low, high, standing, ack, due⟩, shedding⟩ => ⟨low, high, standing, shedding, ack, due⟩⟩

theorem Load.PairLaw.congr {l k : Load} (law : l.PairLaw) (factor : k.factor = l.factor) (standing : k.standing = l.standing)
    (status : k.status = l.status) (ack : k.ack = l.ack) : k.PairLaw := by
  refine ⟨?_, ?_, ?_, ?_, ?_⟩
  · rw [factor]; exact law.low
  · rw [factor]; exact law.high
  · rw [standing, status]; exact law.standing
  · rw [ack, standing]; exact law.ack
  · rw [ack, status]; exact law.due

/-- The pair with a SHED-ACK offered under a standing order in SHED. -/
theorem Load.PairLaw.waiting {l k : Load} (law : l.PairLaw) (factor : k.factor = l.factor) (standing : k.standing = true)
    (status : k.status = .shed) : k.PairLaw :=
  ⟨factor ▸ law.low, factor ▸ law.high, fun _ => by simp [status], fun _ => standing, fun _ => status⟩

/-- The pair without an order, in any status that is not NONE's acknowledgement. -/
theorem Load.PairLaw.withdrawn {l k : Load} (law : l.PairLaw) (factor : k.factor = l.factor) (standing : k.standing = false)
    (ack : k.ack = .notDue) : k.PairLaw :=
  ⟨factor ▸ law.low, factor ▸ law.high, fun h => (by rw [standing] at h; cases h), fun h => absurd ack h,
    fun h => (by rw [ack] at h; simp at h)⟩

/-- Without an order no acknowledgement is due. -/
theorem Load.PairLaw.notDue {l : Load} (law : l.PairLaw) (standing : l.standing = false) : l.ack = .notDue := by
  by_contra due
  cases standing.symm.trans (law.ack due)

theorem State.settleShed_law (law : s.load.PairLaw) (running : s.heat.supply = .running) :
    s.settleShed.load.PairLaw ∧ s.settleShed.heat.supply = .running := by
  rw [State.settleShed_heat]
  refine ⟨?_, running⟩
  unfold State.settleShed
  dsimp only
  split
  next standing status =>
    split_ifs
    · exact law.waiting rfl standing rfl
    · exact ⟨law.low, law.high, fun _ => by simp, fun _ => standing, fun _ => rfl⟩
  next standing status => exact law.withdrawn rfl standing rfl
  next standing status => exact law.withdrawn rfl standing rfl
  · exact law

theorem State.applyHeatPage_supply (s : State) : s.applyHeatPage.heat.supply = s.heat.supply := by
  unfold State.applyHeatPage
  split_ifs
  · split <;> rfl
  · rfl

theorem State.takeShare_pairLaw (law : s.load.PairLaw) : s.takeShare.load.PairLaw := by
  rw [State.takeShare_load]
  exact law.congr rfl rfl rfl rfl

theorem State.beginWindow_supply (s : State) : s.beginWindow.heat.supply = s.heat.supply := by
  rw [State.beginWindow, State.rotate_keeps]
  show s.applyHeatPage.settleShed.demandZones.takeShare.heat.supply = s.heat.supply
  rw [State.takeShare_heat]
  show s.applyHeatPage.settleShed.heat.supply = s.heat.supply
  rw [State.settleShed_heat, State.applyHeatPage_supply]

theorem State.beginWindow_loadLaw (law : s.load.PairLaw) (running : s.heat.supply = .running) :
    s.beginWindow.load.PairLaw ∧ s.beginWindow.SheddingLaw := by
  refine ⟨?_, fun _ => (State.beginWindow_supply s).trans running⟩
  rw [State.beginWindow_load]
  refine State.takeShare_pairLaw ?_
  have settled := State.settleShed_law (s := s.applyHeatPage) (by rw [State.applyHeatPage_load]; exact law)
    (by rw [State.applyHeatPage_supply]; exact running)
  exact settled.1

theorem State.judgeWindow_pairLaw (law : s.load.PairLaw) (rms : Nat) : (s.judgeWindow rms).load.PairLaw := by
  have opened := State.forZones_keeps State.load s (fun t z => t.judgeOpen z) fun t z => t.judgeOpen_load z
  have bounds := State.judgeSag_factor_bounds (s := s.forZones fun t z => t.judgeOpen z) rms
    (by rw [opened]; exact law.low) (by rw [opened]; exact law.high)
  have kept : (s.judgeWindow rms).load = { s.load with factor := (s.judgeWindow rms).load.factor } := by
    unfold State.judgeWindow State.judgeSag
    split <;> simp only [opened]
  rw [kept]
  exact ⟨bounds.1, bounds.2, law.standing, law.ack, law.due⟩

theorem State.takeCrossing_loadLaw (law : s.load.PairLaw) (shedding : s.SheddingLaw) (rms : Nat) (peak : Quad Nat) :
    (s.takeCrossing rms peak).load.PairLaw ∧ (s.takeCrossing rms peak).SheddingLaw := by
  show (if s.windowRuns then s.crossRunning rms peak else s.crossWaiting).load.PairLaw ∧
    (if s.windowRuns then s.crossRunning rms peak else s.crossWaiting).SheddingLaw
  split_ifs with runs
  · unfold State.crossRunning
    dsimp only
    split_ifs
    · exact ⟨law, shedding⟩
    · refine State.beginWindow_loadLaw (State.judgeWindow_pairLaw (s := s.senseSlot peak) law rms) ?_
      rw [State.judgeWindow, State.judgeSag_heat,
        State.forZones_keeps (fun t => t.heat.supply) (s.senseSlot peak) _ fun t z => t.judgeOpen_supply z]
      exact (s.windowRuns_iff).1 runs
  · unfold State.crossWaiting
    split_ifs
    · exact State.beginWindow_loadLaw (law.congr rfl rfl rfl rfl) rfl
    · exact ⟨law, shedding⟩

theorem State.loadNoSupply_law (law : s.load.PairLaw) : s.loadNoSupply.load.PairLaw ∧ s.loadNoSupply.load.status ≠ .shedding := by
  unfold State.loadNoSupply
  dsimp only
  split
  next standing status => exact ⟨law.waiting rfl standing rfl, nofun⟩
  next standing status => exact ⟨law.withdrawn rfl standing (law.notDue standing), nofun⟩
  next standing status => exact ⟨law.withdrawn rfl standing (law.notDue standing), nofun⟩
  next shed withdrawn _ =>
    refine ⟨law.congr rfl rfl rfl rfl, fun status => ?_⟩
    cases standing : s.load.standing with
    | true => exact shed standing status
    | false => exact withdrawn standing status

theorem State.loseSupply_loadLaw (law : s.load.PairLaw) : s.loseSupply.load.PairLaw ∧ s.loseSupply.SheddingLaw := by
  unfold State.loseSupply State.SheddingLaw
  dsimp only
  have off : (if s.windowRuns then s.mapZones fun _ r => r.loseSupply else s).load = s.load := by
    split_ifs <;> rfl
  generalize (if s.windowRuns then s.mapZones fun _ r => r.loseSupply else s) = u at off ⊢
  have lost := State.loadNoSupply_law
    (s := State.applyHeatPage { u with heat := { u.heat with supply := .lost, runCount := 0, slot := 0, supplyTimer := none } })
    (by rw [State.applyHeatPage_load]; exact off ▸ law)
  exact ⟨lost.1, fun status => absurd status lost.2⟩

/-- What leaves the supply and the shed status, or leaves no SHEDDING. -/
theorem State.SheddingLaw.congr (shedding : s.SheddingLaw) (supply : t.heat.supply = s.heat.supply)
    (status : t.load.status = .shedding → s.load.status = .shedding) : t.SheddingLaw := fun h =>
  supply.trans (shedding (status h))

theorem State.HeatAct.loadLaw (act : s.HeatAct t) (law : s.load.PairLaw) (shedding : s.SheddingLaw) :
    t.load.PairLaw ∧ t.SheddingLaw := by
  have zoneOp (f : State → Fin 4 → State) (load : ∀ u z, (f u z).load = u.load)
      (supply : ∀ u z, (f u z).heat.supply = u.heat.supply) (u : State) (same : u.load = s.load)
      (still : u.heat.supply = s.heat.supply) : (u.forZones f).load.PairLaw ∧ (u.forZones f).SheddingLaw := by
    have kept := (State.forZones_keeps State.load u f load).trans same
    exact ⟨by rw [kept]; exact law,
      shedding.congr ((State.forZones_keeps (fun u => u.heat.supply) u f supply).trans still) (by rw [kept]; exact id)⟩
  have judgeSupply (u : State) (z : Fin 4) : (u.judgeZone z).heat.supply = u.heat.supply := by
    unfold State.judgeZone
    split_ifs
    · split <;> rfl
    · rfl
  have clearOp (u : State) (z : Fin 4) :
      (u.clearZone z).load = u.load ∧ (u.clearZone z).heat.supply = u.heat.supply := by
    unfold State.clearZone
    split
    · split_ifs
      · exact ⟨State.judgeZone_load _ _, judgeSupply _ _⟩
      · exact ⟨rfl, rfl⟩
    · exact ⟨rfl, rfl⟩
  cases act with
  | crossing rms peak => exact State.takeCrossing_loadLaw law shedding rms peak
  | supply =>
    unfold State.supplyExpired
    split_ifs with lost
    · exact ⟨law, shedding⟩
    · exact State.loseSupply_loadLaw law
  | idle =>
    unfold State.idleDemand
    dsimp only
    split_ifs <;> exact ⟨law.congr rfl rfl rfl rfl, shedding⟩
  | sample samples =>
    refine zoneOp _ (fun u z => ?_) (fun u z => ?_) _ rfl rfl
    · split_ifs
      · exact State.judgeZone_load _ _
      · rfl
    · split_ifs
      · exact judgeSupply _ _
      · rfl
  | current z current =>
    unfold State.watchCurrent
    split_ifs <;> exact ⟨law, shedding⟩
  | judge => exact zoneOp _ State.judgeZone_load judgeSupply s rfl rfl
  | mode on =>
    unfold State.setHeatingMode
    dsimp only
    split_ifs
    · exact ⟨law, shedding⟩
    · exact zoneOp _ (fun u z => (clearOp u z).1) (fun u z => (clearOp u z).2) _ rfl rfl
    · exact ⟨law, shedding⟩
  | clear => exact zoneOp _ (fun u z => (clearOp u z).1) (fun u z => (clearOp u z).2) s rfl rfl
  | shedAll =>
    unfold State.takeShedAll
    split
    next standing status =>
      split_ifs with window
      · simp only [Bool.and_eq_true] at window
        exact ⟨⟨law.low, law.high, fun _ => by simp, fun h => absurd rfl h, by simp⟩,
          fun _ => (s.windowRuns_iff).1 window.1⟩
      · exact ⟨law.waiting rfl rfl rfl, nofun⟩
    next standing status =>
      have shed : s.offerShedAck.load.PairLaw ∧ s.offerShedAck.SheddingLaw := ⟨law.waiting rfl standing status, shedding⟩
      split
      · exact shed
      · exact shed
      · exact ⟨law, shedding⟩
    next standing status =>
      exact ⟨⟨law.low, law.high, fun _ => by simp [status], fun _ => rfl, law.due⟩, shedding⟩
    next standing status => exact ⟨law.waiting rfl rfl status, shedding⟩
    · exact ⟨law, shedding⟩
  | restore =>
    unfold State.takeRestore
    split
    · refine ⟨law.withdrawn rfl rfl rfl, shedding.congr rfl fun status => ?_⟩
      dsimp only at status
      split_ifs at status
      exact status
    · exact ⟨law, shedding⟩
  | demandSent c =>
    unfold State.demandSent
    split_ifs with awaited
    · simp only [Bool.and_eq_true, beq_iff_eq] at awaited
      exact ⟨law.waiting rfl (law.ack (by simp [awaited.1])) (law.due (.inl awaited.1)), shedding⟩
    · exact ⟨law, shedding⟩
  | shedAckSent =>
    unfold State.shedAckSent
    split_ifs with standing
    · exact ⟨⟨law.low, law.high, law.standing, fun _ => standing, by simp⟩, shedding⟩
    · exact ⟨law, shedding⟩
  | told held =>
    unfold State.tellHeat
    dsimp only
    split_ifs
    · exact ⟨law, shedding⟩
    · exact ⟨by rw [State.applyHeatPage_load]; exact law,
        shedding.congr (State.applyHeatPage_supply _) (by rw [State.applyHeatPage_load]; exact id)⟩

theorem State.Work.loadSound (work : s.Work t) (sound : s.LoadSound) : t.LoadSound := by
  cases work with
  | line act => rw [act.frame]; exact sound
  | travel act => rw [act.frame]; exact sound
  | row act => rw [act.frame]; exact sound
  | heat act =>
    rw [State.loadSound_iff] at *
    exact act.loadLaw sound.1 sound.2
  | level act => rw [act.frame]; exact sound
  | feed act => rw [act.frame]; exact sound
  | station act => rw [act.frame]; exact sound
  | store act => rw [act.frame]; exact sound

theorem Load.atReset_law : Load.atReset.PairLaw :=
  ⟨by decide, by decide, nofun, fun h => absurd rfl h, by decide⟩

theorem State.Act.loadSound (act : s.Act t) (sound : s.LoadSound) : t.LoadSound := by
  cases act with
  | work work => exact work.loadSound sound
  | reset act =>
    rw [State.loadSound_iff] at *
    cases act with
    | warm => exact ⟨Load.atReset_law, nofun⟩
    | prolong => exact sound
    | started => exact ⟨sound.1.congr rfl rfl rfl rfl, sound.2⟩
    | powerOn => exact sound
    | poweredOn => exact ⟨Load.atReset_law.congr rfl rfl rfl rfl, nofun⟩

end

/-- Settles O54: every operation on zones keeps each zone's law, a window's beginning sets every output afresh under a page, and each row
of the shed tables keeps the pair's laws. -/
theorem stepKeepsHeatAndLoadSound : Obligations.StepKeepsHeatAndLoadSound := by
  unfold Obligations.StepKeepsHeatAndLoadSound
  intro s t stepped
  exact ⟨fun sound => step_keeps (P := State.HeatSound) (fun _ _ _ sound => sound) (fun _ _ act => act.heatSound) sound stepped,
    fun sound => step_keeps (P := State.LoadSound) (fun _ _ _ sound => sound) (fun _ _ act => act.loadSound) sound stepped⟩

end Sys2Proof.Machine
end

section
/-! PROOFS. The state right after power-on reset meets every invariant: their base case. -/

namespace Sys2Proof.Machine

theorem reset_lineSound : State.reset.LineSound := .of_idle rfl rfl rfl rfl fun k => by cases k <;> rfl

theorem reset_travelSound : State.reset.TravelSound :=
  (State.travelSound_iff _).2 ((Travel.atReset_lawful (sampleStraps 0) 0 0 0).started _ _)

theorem reset_heatSound : State.reset.HeatSound := (State.heatSound_iff _).2 (.of_reset rfl rfl rfl)

theorem reset_loadSound : State.reset.LoadSound := (State.loadSound_iff _).2 ⟨Load.atReset_law.congr rfl rfl rfl rfl, nofun⟩

theorem reset_levelSound : State.reset.LevelSound :=
  (State.levelSound_iff _).2
    (Levelling.Lawful.started (p := sampleStraps 0) (Levelling.atReset_lawful fun unfitted => if_neg (by rw [unfitted]; decide)) _)

theorem reset_feedSound : State.reset.FeedSound :=
  (State.feedSound_iff _).2 ((Feed.atReset_lawful _).congr fun d => by cases d <;> rfl)

theorem reset_stationSound : State.reset.StationSound :=
  (State.stationSound_iff _).2 ⟨(Supervisor.atReset_law .powerOn).congr rfl rfl rfl rfl, nofun, nofun⟩

theorem reset_pagesSound : State.reset.PagesSound := .of_none rfl rfl (Levelling.started_page _ _ _) rfl rfl rfl

theorem reset_outputsOff : State.reset.OutputsOff :=
  ⟨fun z => by fin_cases z <;> rfl, rfl, fun d => by cases d <;> rfl⟩

/-- Settles O60: each block's reset values meet its laws, and the first STATUS stands written out in the model. -/
theorem resetMeetsEveryInvariant : Obligations.ResetMeetsEveryInvariant := by
  unfold Obligations.ResetMeetsEveryInvariant
  have status : firstStatus = State.reset.formStatus := by decide
  exact ⟨reset_lineSound, reset_travelSound, reset_heatSound, reset_loadSound, reset_levelSound, reset_feedSound,
    Ring.atPowerOn_sound, reset_stationSound, reset_pagesSound, rfl, reset_outputsOff, rfl, rfl, rfl, rfl, rfl, rfl, rfl, rfl,
    rfl, rfl, rfl, rfl, congrArg (fun c => some (Content.status c 0)) status⟩

end Sys2Proof.Machine
end

section
/-! PROOFS. The end of a send and the timers of the line (R6, R15, R17, R18). -/

namespace Sys2Proof.Machine

/-! ## What an event's report leaves of the line -/

/-- The report of an event puts nothing in flight and drives nothing. -/
theorem State.reported_lineQuiet (before after : State) : after.LineQuiet (State.reported before after) := by
  unfold State.reported
  split
  · exact ⟨rfl, rfl, after.line.queue.offer_sameFlights _⟩
  · exact .refl after

section
variable {s : State} {k : StationKind} {c : Content} {p : Nat} {f : Option Content}

theorem TxQueue.flying_of_slot {q : TxQueue} (flies : q.get k = .inFlight c p f) (only : q.OnlyFlying k) : q.flying = some k :=
  TxQueue.flying_of_only (by rw [flies]; rfl) only

/-! ## Contention -/

theorem State.loseContention_of_other {cls : Fin 8} {sender : Fin 16} (flies : s.line.queue.get k = .inFlight c p f)
    (only : s.line.queue.OnlyFlying k) (other : ¬(cls.val = k.cls ∧ sender.val = s.straps.station.val)) :
    s.loseContention cls sender = s.setSending (s.line.queue.set k (.waiting (f.getD c) p)) none := by
  simp only [State.loseContention, TxQueue.flying_of_slot flies only, if_neg other, flies, TxSlot.returned]

theorem State.loseContention_of_own {cls : Fin 8} {sender : Fin 16} (flies : s.line.queue.get k = .inFlight c p f)
    (only : s.line.queue.OnlyFlying k) (own : cls.val = k.cls ∧ sender.val = s.straps.station.val) :
    s.loseContention cls sender = s := by
  simp only [State.loseContention, TxQueue.flying_of_slot flies only, if_pos own]

/-- Settles O5: the two branches of `loseContention`, neither of which changes what STATUS carries. -/
theorem lostContentionKeepsEntry : Obligations.LostContentionKeepsEntry := by
  unfold Obligations.LostContentionKeepsEntry
  constructor
  · intro s k c p f cls sender ready flies only other
    exact congrArg Host.Outcome.next
      (State.take_of_unchanged ready (State.loseContention_of_other flies only other) ready.2 (State.statusStates_of_line rfl))
  · intro s k c p f cls sender ready flies only own
    exact congrArg Host.Outcome.next (State.take_of_unchanged ready (State.loseContention_of_own flies only own) ready.2 rfl)

/-! ## A success -/

theorem State.completeSend_success (flies : s.line.queue.get k = .inFlight c p f) (only : s.line.queue.OnlyFlying k) :
    s.completeSend .success = s.sendSucceeded k := by
  simp only [State.completeSend, TxQueue.flying_of_slot flies only]

/-- A report to the block that offered leaves the line but for offers. -/
theorem State.reportSent_lineQuiet (s : State) (c : Content) : s.LineQuiet (s.reportSent c) := by
  cases c with
  | demand d => exact State.HeatPieces.lineQuiet (State.HeatAct.demandSent s d).pieces
  | shedAck a => exact State.HeatPieces.lineQuiet (State.HeatAct.shedAckSent s).pieces
  | record r => exact (State.StationAct.recordSent s).lineQuiet
  | collectEnd e => exact (State.StationAct.collected s e.outcome).lineQuiet
  | _ => exact .of_same rfl rfl

/-- A success leaves the line's count at 0, nothing driven and, with the one slot in flight settled, none in flight. -/
theorem State.sendSucceeded_line (flies : s.line.queue.get k = .inFlight c p f) (only : s.line.queue.OnlyFlying k)
    (speaking : s.line.state = .speaking) :
    (s.sendSucceeded k).line.errors = 0 ∧ (s.sendSucceeded k).line.sending = none ∧
      ∀ other, ((s.sendSucceeded k).line.queue.get other).isInFlight = false := by
  have down := TxSlot.settled_isInFlight (.inFlight c p f) s.line.queue.nextPosition
  simp only [State.sendSucceeded, flies, TxSlot.flyingContent, Line.cleared, speaking, beq_self_eq_true, if_true]
  have quiet := fun t : State => t.reportSent_lineQuiet c
  refine ⟨by rw [(quiet _).line]; rfl, by rw [(quiet _).line]; rfl, fun other => ((quiet _).flights other).trans ?_⟩
  exact (congrArg TxSlot.isInFlight (TxQueue.get_nextPosition _ _ other)).trans (only.set_down down other)

/-- An event alarm that a sent STATUS listed goes, unless it was raised again since (R170). -/
theorem afterCarried_isSome (raised code formed : Nat) (listed : List Nat) :
    (afterCarried (some raised) code listed formed).isSome = false ↔ code ∈ listed ∧ raised ≤ formed := by
  simp [afterCarried]

/-- The report of a sent STATUS reaches the supervisor's event alarms (R170). -/
theorem State.sendSucceeded_status_events {c : StatusContent} {formed : Nat} {f : Option Content}
    (flies : s.line.queue.get .status = .inFlight (.status c formed) p f) :
    (s.sendSucceeded .status).sup.events = s.sup.events.sent c.alarms formed := by
  simp [State.sendSucceeded, flies, TxSlot.flyingContent, State.reportSent]

/-- Settles O6: `sendSucceeded_eq`, whose report touches the sender's block and the event alarms a STATUS carried. -/
theorem successSettlesSlot : Obligations.SuccessSettlesSlot := by
  unfold Obligations.SuccessSettlesSlot
  refine ⟨?untold, ?landed, ?reported⟩
  case untold =>
    intro s k c p f ready speaking flies only kind
    have sent := (State.completeSend_success flies only).trans (State.sendSucceeded_eq flies speaking)
    refine congrArg Host.Outcome.next (State.take_of_unchanged ready (sent.trans ?_) ready.2 (State.statusStates_of_line rfl))
    rcases kind with ⟨x, rfl⟩ | ⟨x, rfl⟩ | ⟨x, rfl⟩ <;> cases f <;> rfl
  case landed =>
    intro s k c p f running speaking flies only
    refine ⟨_, rfl, ?_⟩
    rw [State.take_of_running running, State.completeSend_success flies only]
    have quiet := State.reported_lineQuiet s (s.sendSucceeded k)
    obtain ⟨errors, silent, landed⟩ := State.sendSucceeded_line flies only speaking
    rw [quiet.line]
    exact ⟨errors, silent, fun other => (quiet.flights other).trans (landed other)⟩
  case reported =>
    intro s c formed p running flies only
    refine State.take_reaches running _ fun t same => ?_
    have events : t.sup.events = s.sup.events.sent c.alarms formed := by
      rw [same.events, State.completeSend_success flies only, State.sendSucceeded_status_events flies]
    simp only [State.alarm, events, EventAlarms.sent]
    refine ⟨?_, ?_, ?_, ?_⟩
    all_goals
      intro raised found
      rw [found]
      exact afterCarried_isSome _ _ _ _

/-! ## A failure -/

theorem State.completeSend_failure {result : SendResult} (flies : s.line.queue.get k = .inFlight c p f)
    (only : s.line.queue.OnlyFlying k) (failed : result ≠ .success) :
    s.completeSend result = (s.setSending (s.line.queue.set k (.waiting (f.getD c) p)) none).countFailure := by
  cases result with
  | success => exact absurd rfl failed
  | _ => simp only [State.completeSend, TxQueue.flying_of_slot flies only, State.sendFailed, flies, TxSlot.returned]

theorem State.countFailure_below (speaking : s.line.state = .speaking) (below : s.line.errors + 1 < 32) :
    s.countFailure = { s with line := { s.line with errors := s.line.errors + 1 } } := by
  simp only [State.countFailure, speaking, Config.quietErrors, beq_self_eq_true, if_true]
  exact if_neg (by omega)

theorem State.countFailure_at_limit (speaking : s.line.state = .speaking) (limit : s.line.errors + 1 = 32) :
    s.countFailure =
      State.raise
        { s with line := { s.line with errors := 32, state := .quiet, quietTimer := some (s.now + 10000) } } .lineQuiet := by
  simp only [State.countFailure, speaking, Config.quietErrors, beq_self_eq_true, if_true]
  exact if_pos (by omega)

/-- Settles O7: a failed send counts below 32, and at 32 goes QUIET with LINE-QUIET raised. -/
theorem failureReturnsSlot : Obligations.FailureReturnsSlot := by
  unfold Obligations.FailureReturnsSlot
  constructor
  · intro s k c p f result ready speaking flies only failed below
    have counted := (State.completeSend_failure flies only failed).trans (State.countFailure_below (by exact speaking) below)
    exact congrArg Host.Outcome.next (State.take_of_unchanged ready counted ready.2 (State.statusStates_of_line rfl))
  · intro s k c p f result running speaking flies only failed limit
    have counted := (State.completeSend_failure flies only failed).trans (State.countFailure_at_limit (by exact speaking) limit)
    refine State.take_reaches running _ fun t same => ?_
    rw [counted] at same
    exact ⟨by rw [same.alarm]; rfl, same⟩

end

/-! ## The timers -/

theorem not_due_of_future {timer : Option Nat} {now : Nat} (future : ∀ d, timer = some d → now < d) : due timer now = false := by
  cases timer with
  | none => rfl
  | some d => exact decide_eq_false (Nat.not_le.2 (future d rfl))

/-- Settles O8: each expiry is its effect when due and nothing before. -/
theorem lineTimersExpire : Obligations.LineTimersExpire := by
  unfold Obligations.LineTimersExpire
  refine ⟨?quiet, ?duplicate, ?quietEarly, ?duplicateEarly⟩
  case quiet =>
    intro s d running timer reached
    exact State.takeExpiry_reaches running timer reached _ fun t same => same
  case duplicate =>
    intro s d running timer reached
    exact State.takeExpiry_reaches running timer reached _ fun t same => ⟨by rw [same.alarm]; rfl, same⟩
  case quietEarly =>
    intro s future
    exact congrArg Host.Outcome.next (State.takeExpiry_of_not_due (not_due_of_future future) _)
  case duplicateEarly =>
    intro s future
    exact congrArg Host.Outcome.next (State.takeExpiry_of_not_due (not_due_of_future future) _)

end Sys2Proof.Machine
end

section
/-! PROOFS. Bulletins read back from what was sent (R4, R9, R182), and the contents of the peers' kinds read back from their payloads
(Section 12.3). -/

namespace Sys2Proof.Machine

/-! ## Fields of bytes -/

theorem spelled_byte (n : Nat) : spelled [byte n] = n % 256 := by simp [spelled, byte_toNat]

theorem spelled_bytes2 (n : Nat) : spelled (bytes2 n) = n % 65536 := by
  simp only [spelled, bytes2, List.foldl_cons, List.foldl_nil, byte_toNat]
  omega

theorem spelled_bytes4 (n : Nat) : spelled (bytes4 n) = n % 4294967296 := by
  simp only [spelled, bytes4, List.foldl_cons, List.foldl_nil, byte_toNat]
  omega

/-- A field within the first part of a payload. -/
theorem fieldAt_at_end (p q : List Byte) (len : Nat) (fits : q.length = len) : fieldAt (p ++ q) p.length len = spelled q := by
  simp [fieldAt, ← fits]

/-! ## A sent bulletin is good -/

theorem Content.payload_le (c : Content) : c.payload.length ≤ 48 := by
  have length := c.payload_length
  generalize c.payload.length = n at length
  generalize c.kind = k at length
  cases k
  all_goals
    cases length
    decide

theorem StationKind.code_lt (k : StationKind) : k.code < 256 := by cases k <;> decide

section
variable (station : Fin 8) (c : Content)

theorem headerAndPayload_length : (headerAndPayload station c).length = 4 + c.payload.length := by
  simp [headerAndPayload]
  omega

theorem bulletin_kind : fieldAt (bulletin station c) 1 1 = c.kind.code :=
  (spelled_byte _).trans (Nat.mod_eq_of_lt c.kind.code_lt)

theorem bulletin_target : bits (fieldAt (bulletin station c) 2 1) 3 0 = 15 := by
  rw [show fieldAt (bulletin station c) 2 1 = 15 from spelled_byte 15]
  rfl

theorem bulletin_payloadLength : fieldAt (bulletin station c) 3 1 = c.payload.length :=
  (spelled_byte _).trans (Nat.mod_eq_of_lt (by have := c.payload_le; omega))

theorem bulletin_sender : (senderOf (bulletin station c)).val = station.val := by
  have header : fieldAt (bulletin station c) 0 1 = (c.kind.cls * 32 + station.val * 2) % 256 := spelled_byte _
  simp only [senderOf, header, bits]
  have number := station.isLt
  omega

theorem bulletin_checksum :
    fieldAt (bulletin station c) (4 + c.payload.length) 2 = (checksum (headerAndPayload station c)).toNat := by
  rw [← headerAndPayload_length station c, bulletin, fieldAt_at_end _ (bytes2 _) 2 rfl, spelled_bytes2]
  exact Nat.mod_eq_of_lt (BitVec.isLt _)

/-- Every bulletin a station sends passes R9's judgement. -/
theorem bulletin_isGood : isGood (bulletin station c) = true := by
  have length : (bulletin station c).length = 4 + c.payload.length + 2 := by
    simp [bulletin, headerAndPayload_length, bytes2]
  have covered : (bulletin station c).take (4 + c.payload.length) = headerAndPayload station c := by
    rw [← headerAndPayload_length station c, bulletin]
    exact List.take_left
  have short := c.payload_le
  simp only [isGood, bulletin_payloadLength, bulletin_checksum, covered, length, Config.maxPayload]
  simp
  omega

theorem bulletin_payload : ((bulletin station c).drop 4).take c.payload.length = c.payload := List.take_left

theorem readBulletin_bulletin :
    readBulletin (bulletin station c) = some ⟨senderOf (bulletin station c), c.kind.code, 15, c.payload⟩ := by
  simp only [readBulletin, bulletin_isGood, if_true, bulletin_kind, bulletin_target, bulletin_payloadLength, bulletin_payload]

/-! ## The frame of a sent bulletin -/

theorem flatMap_byteLevels_length : ((bulletin station c).flatMap byteLevels).length = 8 * (bulletin station c).length := by
  have whole := frame_length station c
  simp only [frame, List.length_append, List.length_cons, List.length_nil, List.length_replicate] at whole
  omega

/-- The levels of the bulletin's bytes stand between the start mark and the recessive end of the frame. -/
theorem frame_eq :
    frame station c = .dominant :: ((bulletin station c).flatMap byteLevels ++ List.replicate 9 .recessive) := by
  simp [frame, List.replicate]

theorem frame_bit {i j : Nat} {b : Byte} (hj : j < 8) (here : (bulletin station c)[i]? = some b) :
    (frame station c)[1 + 8 * i + j]? = some (if b.getLsbD (7 - j) then .recessive else .dominant) := by
  have level := (flatMap_byteLevels_getElem? hj _ i here).trans (byteLevels_getElem? b hj)
  obtain ⟨inside, -⟩ := List.getElem?_eq_some_iff.1 level
  rw [frame_eq, show 1 + 8 * i + j = 8 * i + j + 1 by omega, List.getElem?_cons_succ, List.getElem?_append_left inside, level]

theorem frame_end {i : Nat} (hi : i < 9) :
    (frame station c)[1 + 8 * (bulletin station c).length + i]? = some .recessive := by
  have levels := flatMap_byteLevels_length station c
  rw [frame_eq, show 1 + 8 * (bulletin station c).length + i = 8 * (bulletin station c).length + i + 1 by omega,
    List.getElem?_cons_succ, List.getElem?_append_right (by omega), levels,
    show 8 * (bulletin station c).length + i - 8 * (bulletin station c).length = i by omega]
  exact List.getElem?_replicate_of_lt hi

end

/-- Settles O9: the header's fields are read back from their bytes, and the frame is the start mark, the bytes' levels and nine
recessive bits. -/
theorem sentBulletinsAreGood : Obligations.SentBulletinsAreGood := by
  unfold Obligations.SentBulletinsAreGood
  constructor
  · intro station c
    exact ⟨_, readBulletin_bulletin station c, bulletin_sender station c, rfl, rfl, rfl, c.payload_length⟩
  · intro station c
    exact ⟨frame_length station c, rfl, fun i j b hj here => frame_bit station c hj here, fun i hi => frame_end station c hi⟩

/-! ## Values read back from their fields -/

theorem unsigned_signed16 {v : Int} (low : -32768 ≤ v) (high : v ≤ 32767) : unsigned 16 (signed 16 v % 65536) = v := by
  unfold unsigned signed
  split_ifs <;> omega

theorem ofReading16_reading16 {v : Option Int} (fits : Fits16 v) : ofReading16 (reading16 v % 65536) = v := by
  unfold ofReading16 reading16
  cases v with
  | none => rfl
  | some x =>
    obtain ⟨low, high⟩ := fits x rfl
    rw [Option.getD_some, unsigned_signed16 (by omega) high, if_neg (by omega)]

theorem ofLevelByte_levelByte {v : Option Nat} (fits : FitsLevel v) : ofLevelByte (v.getD 255 % 256) = v := by
  cases v with
  | none => rfl
  | some x =>
    have below := fits x rfl
    rw [Option.getD_some, Nat.mod_eq_of_lt (by omega), ofLevelByte, if_neg (by omega)]

theorem ofPeriodField_periodField {v : Option Nat} (fits : ∀ p, v = some p → 0 < p ∧ p < 65536) :
    ofPeriodField (v.getD 0 % 65536) = v := by
  cases v with
  | none => rfl
  | some x =>
    obtain ⟨low, high⟩ := fits x rfl
    rw [Option.getD_some, Nat.mod_eq_of_lt high, ofPeriodField, if_neg (by omega)]

theorem sideOf_sideCode (s : Side) : sideOf (sideCode s) = s := by cases s <;> rfl
theorem sideModeOf_sideModeCode (m : SideMode) : sideModeOf (sideModeCode m) = m := by cases m <;> rfl
theorem sideCode_lt (s : Side) : sideCode s < 2 := by cases s <;> decide
theorem sideModeCode_lt (m : SideMode) : sideModeCode m < 4 := by cases m <;> decide
theorem sectionKindCode_lt (k : SectionKind) : sectionKindCode k < 3 := by cases k <;> decide
theorem sectionKindOf_sectionKindCode (k : SectionKind) : sectionKindOf (sectionKindCode k) = some k := by cases k <;> rfl
theorem TravelState.code_lt (s : TravelState) : s.code < 4 := by cases s <;> decide
theorem TravelState.ofCode_code (s : TravelState) : ofCode s.code = s := by cases s <;> rfl
theorem HeatingState.code_lt (s : HeatingState) : s.code < 8 := by cases s <;> decide
theorem HeatingState.ofCode_code (s : HeatingState) : ofCode s.code = s := by cases s <;> rfl
theorem bit_lt (b : Bool) : bit b < 2 := by cases b <;> decide
theorem bit_beq_one (b : Bool) : (bit b == 1) = b := by cases b <;> rfl

/-! ## Contents read back -/

theorem decodeTravel_encodeTravel {c : TravelContent} (fits : c.Fits) : decodeTravel (encodeTravel c) = c := by
  obtain ⟨high, slow, fast⟩ := fits
  have chainage : fieldAt (encodeTravel c) 0 4 = c.chainage := (spelled_bytes4 _).trans (Nat.mod_eq_of_lt high)
  have epoch : fieldAt (encodeTravel c) 4 1 = c.epoch.toNat := (spelled_byte _).trans (Nat.mod_eq_of_lt c.epoch.isLt)
  have speed : fieldAt (encodeTravel c) 5 2 = signed 16 c.speed % 65536 := spelled_bytes2 _
  have flags : fieldAt (encodeTravel c) 7 1 = (c.state.code * 64 + bit c.counts) % 256 := spelled_byte _
  have state := c.state.code_lt
  have counts := bit_lt c.counts
  have fields : bits (fieldAt (encodeTravel c) 7 1) 7 6 = c.state.code ∧ bits (fieldAt (encodeTravel c) 7 1) 0 0 = bit c.counts := by
    rw [flags]
    simp only [bits]
    omega
  simp only [decodeTravel, flag, chainage, epoch, speed, fields, unsigned_signed16 slow fast, BitVec.ofNat_toNat,
    BitVec.setWidth_eq, TravelState.ofCode_code, bit_beq_one]

theorem decodeDemand_encodeDemand {c : DemandContent} (fits : c.Fits) : decodeDemand (encodeDemand c) = c := by
  obtain ⟨low, mid, high⟩ := fits
  have demand : fieldAt (encodeDemand c) 0 2 = c.demand := (spelled_bytes2 _).trans (Nat.mod_eq_of_lt low)
  have state : fieldAt (encodeDemand c) 2 1 = c.heating.code * 32 % 256 := spelled_byte _
  have factor : fieldAt (encodeDemand c) 3 2 = c.factor := (spelled_bytes2 _).trans (Nat.mod_eq_of_lt mid)
  have total : fieldAt (encodeDemand c) 5 2 = c.total := (spelled_bytes2 _).trans (Nat.mod_eq_of_lt high)
  have heating := c.heating.code_lt
  have code : bits (fieldAt (encodeDemand c) 2 1) 7 5 = c.heating.code := by
    rw [state]
    simp only [bits]
    omega
  simp only [decodeDemand, demand, code, factor, total, HeatingState.ofCode_code]

theorem decodeHeight_encodeHeight {c : HeightContent} (fits : c.Fits) : decodeHeight (encodeHeight c) = c := by
  obtain ⟨_, _, _, _, grade, slope, reference⟩ := fits
  have first : fieldAt (encodeHeight c) 0 1 =
      (sideCode c.side * 128 + sideModeCode c.mode * 32 + c.condition % 8 * 4 + c.holdCause % 4) % 256 := spelled_byte _
  have second : fieldAt (encodeHeight c) 1 1 =
      (c.partner % 16 * 16 + c.driver % 4 * 4 + bit c.gradeFault * 2 + bit c.slopeFault) % 256 := spelled_byte _
  have readings : fieldAt (encodeHeight c) 2 2 = reading16 c.grade % 65536 ∧
      fieldAt (encodeHeight c) 4 2 = reading16 c.slope % 65536 ∧ fieldAt (encodeHeight c) 6 2 = reading16 c.reference % 65536 :=
    ⟨spelled_bytes2 _, spelled_bytes2 _, spelled_bytes2 _⟩
  have side := sideCode_lt c.side
  have mode := sideModeCode_lt c.mode
  have gradeBit := bit_lt c.gradeFault
  have slopeBit := bit_lt c.slopeFault
  have firstBits : bits (fieldAt (encodeHeight c) 0 1) 7 7 = sideCode c.side ∧
      bits (fieldAt (encodeHeight c) 0 1) 6 5 = sideModeCode c.mode ∧ bits (fieldAt (encodeHeight c) 0 1) 4 2 = c.condition ∧
      bits (fieldAt (encodeHeight c) 0 1) 1 0 = c.holdCause := by
    rw [first]
    simp only [bits]
    omega
  have secondBits : bits (fieldAt (encodeHeight c) 1 1) 7 4 = c.partner ∧ bits (fieldAt (encodeHeight c) 1 1) 3 2 = c.driver ∧
      bits (fieldAt (encodeHeight c) 1 1) 1 1 = bit c.gradeFault ∧ bits (fieldAt (encodeHeight c) 1 1) 0 0 = bit c.slopeFault := by
    rw [second]
    simp only [bits]
    omega
  simp only [decodeHeight, flag, firstBits, secondBits, readings, sideOf_sideCode, sideModeOf_sideModeCode, bit_beq_one,
    ofReading16_reading16 grade, ofReading16_reading16 slope, ofReading16_reading16 reference]

/-- A drive's five bytes, wherever they stand in a payload, are read as the drive. -/
theorem decodeDrive_encodeDrive {d : DriveReport} (fits : d.Fits) {p : List Byte} {start : Nat}
    (here : (p.drop start).take 5 = encodeDrive d) : decodeDrive p start = d := by
  obtain ⟨low, mid, command, period⟩ := fits
  have part : ∀ i len, i + len ≤ 5 → fieldAt p (start + i) len = fieldAt (encodeDrive d) i len := fun i len inside => by
    rw [fieldAt, fieldAt, ← here, List.drop_take, List.take_take, List.drop_drop, Nat.min_eq_left (by omega)]
  have flags : fieldAt p start 1 = (d.mode % 4 * 64 + d.condition % 8 * 8) % 256 :=
    (part 0 1 (by decide)).trans (spelled_byte _)
  have drives : fieldAt p (start + 1) 2 = d.command :=
    ((part 1 2 (by decide)).trans (spelled_bytes2 _)).trans (Nat.mod_eq_of_lt command)
  have pulses : fieldAt p (start + 3) 2 = d.period.getD 0 % 65536 := (part 3 2 (by decide)).trans (spelled_bytes2 _)
  have fields : bits (fieldAt p start 1) 7 6 = d.mode ∧ bits (fieldAt p start 1) 5 3 = d.condition := by
    rw [flags]
    simp only [bits]
    omega
  simp only [decodeDrive, fields, drives, pulses, ofPeriodField_periodField period]

theorem decodeOwner_encodeOwner {c : LevelContent} {o : OwnerPart} (owner : c.owner = some o) (fits : o.Fits) :
    decodeOwner (encodeLevel c) = o := by
  obtain ⟨conveyor, auger, source, tunnel⟩ := fits
  have drives : decodeDrive (encodeLevel c) 2 = o.conveyor ∧ decodeDrive (encodeLevel c) 7 = o.auger := by
    unfold encodeLevel
    rw [owner]
    exact ⟨decodeDrive_encodeDrive conveyor rfl, decodeDrive_encodeDrive auger rfl⟩
  have tail : fieldAt (encodeLevel c) 12 1 = (bit o.edgeColdUsed * 128 + o.source % 16) % 256 ∧
      fieldAt (encodeLevel c) 13 1 = o.tunnel.getD 255 % 256 ∧ fieldAt (encodeLevel c) 14 1 = bit o.tunnelFault % 256 := by
    unfold encodeLevel
    rw [owner]
    exact ⟨spelled_byte _, spelled_byte _, spelled_byte _⟩
  have cold := bit_lt o.edgeColdUsed
  have fault := bit_lt o.tunnelFault
  have fields : bits (fieldAt (encodeLevel c) 12 1) 7 7 = bit o.edgeColdUsed ∧
      bits (fieldAt (encodeLevel c) 12 1) 3 0 = o.source ∧ bits (fieldAt (encodeLevel c) 14 1) 0 0 = bit o.tunnelFault := by
    simp only [tail, bits]
    omega
  simp only [decodeOwner, flag, drives, fields, tail.2.1, bit_beq_one, ofLevelByte_levelByte tunnel]

theorem decodeLevel_encodeLevel {c : LevelContent} (fits : c.Fits) : decodeLevel (encodeLevel c) = some c := by
  obtain ⟨level, owners⟩ := fits
  have flags : fieldAt (encodeLevel c) 0 1 =
      (sideCode c.side * 128 + sectionKindCode c.kind * 32 + bit c.valid * 16 + bit c.edgeCold * 8 + bit c.owner.isSome * 4) % 256 :=
    spelled_byte _
  have reading : fieldAt (encodeLevel c) 1 1 = c.level.getD 255 % 256 := spelled_byte _
  have side := sideCode_lt c.side
  have kind := sectionKindCode_lt c.kind
  have valid := bit_lt c.valid
  have cold := bit_lt c.edgeCold
  have owned := bit_lt c.owner.isSome
  have fields : bits (fieldAt (encodeLevel c) 0 1) 7 7 = sideCode c.side ∧
      bits (fieldAt (encodeLevel c) 0 1) 6 5 = sectionKindCode c.kind ∧ bits (fieldAt (encodeLevel c) 0 1) 4 4 = bit c.valid ∧
      bits (fieldAt (encodeLevel c) 0 1) 3 3 = bit c.edgeCold ∧ bits (fieldAt (encodeLevel c) 0 1) 2 2 = bit c.owner.isSome := by
    rw [flags]
    simp only [bits]
    omega
  have part : (if c.owner.isSome then some (decodeOwner (encodeLevel c)) else none) = c.owner := by
    cases owner : c.owner with
    | none => rfl
    | some o => exact congrArg some (decodeOwner_encodeOwner owner (owners o owner))
  simp only [decodeLevel, flag, fields, reading, sectionKindOf_sectionKindCode, Option.map_some, sideOf_sideCode, bit_beq_one,
    ofLevelByte_levelByte level, part]

/-- Settles O10: the round trip of each layout. -/
theorem peerContentsRoundTrip : Obligations.PeerContentsRoundTrip := by
  unfold Obligations.PeerContentsRoundTrip
  intro c m fits offered
  cases c with
  | travel c =>
    cases offered
    exact congrArg (fun c => some (PeerContent.travel c)) (decodeTravel_encodeTravel fits)
  | height c =>
    cases offered
    exact congrArg (fun c => some (PeerContent.height c)) (decodeHeight_encodeHeight fits)
  | demand c =>
    cases offered
    exact congrArg (fun c => some (PeerContent.demand c)) (decodeDemand_encodeDemand fits)
  | level c =>
    cases offered
    exact congrArg (Option.map PeerContent.level) (decodeLevel_encodeLevel fits)
  | status c => cases offered

end Sys2Proof.Machine
end

section
/-! PROOFS. Bulletins received, the peer table (R9 to R11, R19 to R21), the commands that a bulletin hands on (R10), and the cadences
(R16). -/

namespace Sys2Proof.Machine

theorem State.SameButStatus.straps {s t : State} (same : State.SameButStatus s t) : t.straps = s.straps := by
  rw [State.straps, same.identity]
  rfl

/-! ## What a reception comes to -/

section
variable {s : State} {bytes : List Byte} {b : Bulletin}

/-- The state in which a bulletin has been echoed (R9). -/
def State.withEcho (s : State) : State := { s with line := { s.line with echoed := true } }

theorem State.receive_of_bad (bad : readBulletin bytes = none) :
    s.receive bytes =
      { s with line := { s.line with receiveErrors := min 65535 (s.line.receiveErrors + 1), echoed := false } } := by
  rw [State.receive, bad]
  rfl

theorem State.receive_of_good (read : readBulletin bytes = some b) : s.receive bytes = s.withEcho.arrive b := by
  rw [State.receive, read]
  rfl

theorem State.arrive_of_own (own : b.sender.val = s.straps.station.val) : s.arrive b = s.noteDuplicate := by
  unfold State.arrive
  rw [dif_pos (show b.sender.val < 8 by omega), if_pos own]

theorem State.arrive_of_station {n : Fin 8} (sender : b.sender.val = n.val) (other : n ≠ s.straps.station) :
    s.arrive b = s.arriveFromStation n b := by
  have peer : b.sender.val < 8 := by omega
  have number : (⟨b.sender.val, peer⟩ : Fin 8) = n := Fin.ext sender
  unfold State.arrive
  rw [dif_pos peer, if_neg (fun own => other (Fin.ext (sender.symm.trans own))), number]

theorem State.arrive_of_console (console : 8 ≤ b.sender.val) : s.arrive b = s.arriveFromConsole b := dif_neg (by omega)

theorem Bulletin.fits_iff : b.fits = true ↔ payloadLength b.kind = some b.payload.length := by simp [Bulletin.fits]

theorem State.arriveFromStation_of_content {n : Fin 8} {c : PeerContent} (fits : payloadLength b.kind = some b.payload.length)
    (content : decodePeer b.kind b.payload = some c) : s.arriveFromStation n b = s.enterPeer n c := by
  rw [State.arriveFromStation, if_pos (Bulletin.fits_iff.2 fits), content]

theorem State.arriveFromConsole_of_command {c : LineCommand} (fits : payloadLength b.kind = some b.payload.length)
    (addressed : b.target = s.straps.station.val ∨ b.target = 15) (command : decodeCommand b.kind b.payload = some c) :
    s.arriveFromConsole b = s.takeCommand b.sender c := by
  rw [State.arriveFromConsole, if_pos ⟨Bulletin.fits_iff.2 fits, addressed⟩, command]

/-- What nothing takes is echoed and discarded: a payload that is not its kind's, a kind without a slot, a command for another
target, and a field that names no value (R10, R182, R183). -/
theorem State.arrive_of_untaken (other : b.sender.val ≠ s.straps.station.val)
    (peer : b.sender.val < 8 → payloadLength b.kind = some b.payload.length → decodePeer b.kind b.payload = none)
    (console : 8 ≤ b.sender.val → payloadLength b.kind = some b.payload.length →
      (b.target = s.straps.station.val ∨ b.target = 15) → decodeCommand b.kind b.payload = none) : s.arrive b = s := by
  by_cases sender : b.sender.val < 8
  · rw [State.arrive, dif_pos sender, if_neg other, State.arriveFromStation]
    split
    next fits => rw [peer sender (Bulletin.fits_iff.1 fits)]
    next => rfl
  · rw [State.arrive_of_console (by omega), State.arriveFromConsole]
    split
    next fits =>
      obtain ⟨fits, addressed⟩ := fits
      rw [console (by omega) (Bulletin.fits_iff.1 fits) addressed]
    next => rfl

theorem State.receive_of_own (read : readBulletin bytes = some b) (own : b.sender.val = s.straps.station.val) :
    s.receive bytes = s.withEcho.noteDuplicate := (State.receive_of_good read).trans (State.arrive_of_own own)

theorem State.receive_of_content {n : Fin 8} {c : PeerContent} (read : readBulletin bytes = some b)
    (sender : b.sender.val = n.val) (other : n ≠ s.straps.station) (fits : payloadLength b.kind = some b.payload.length)
    (content : decodePeer b.kind b.payload = some c) : s.receive bytes = s.withEcho.enterPeer n c :=
  ((State.receive_of_good read).trans (State.arrive_of_station sender other)).trans
    (State.arriveFromStation_of_content fits content)

theorem State.receive_of_command {c : LineCommand} (read : readBulletin bytes = some b) (console : 8 ≤ b.sender.val)
    (fits : payloadLength b.kind = some b.payload.length) (addressed : b.target = s.straps.station.val ∨ b.target = 15)
    (command : decodeCommand b.kind b.payload = some c) : s.receive bytes = s.withEcho.takeCommand b.sender c :=
  ((State.receive_of_good read).trans (State.arrive_of_console console)).trans
    (State.arriveFromConsole_of_command fits addressed command)

theorem State.receive_of_untaken (read : readBulletin bytes = some b) (other : b.sender.val ≠ s.straps.station.val)
    (peer : b.sender.val < 8 → payloadLength b.kind = some b.payload.length → decodePeer b.kind b.payload = none)
    (console : 8 ≤ b.sender.val → payloadLength b.kind = some b.payload.length →
      (b.target = s.straps.station.val ∨ b.target = 15) → decodeCommand b.kind b.payload = none) :
    s.receive bytes = s.withEcho := (State.receive_of_good read).trans (State.arrive_of_untaken other peer console)

/-! ## The peer table -/

theorem State.enterPeer_of_still {n : Fin 8} {c : PeerContent} (still : c.isTravel = false ∨ s.straps.encoder = true) :
    s.enterPeer n c = s.setPeer n ((s.line.peers.get n).enter c s.now) := by
  unfold State.enterPeer
  split
  next travel =>
    have encoder : s.straps.encoder = true := still.resolve_left (by simp [travel])
    exact if_pos encoder
  next => rfl

theorem State.mem_heard_iff (s : State) (n : Fin 8) :
    n ∈ s.heard ↔ n = s.straps.station ∨ (s.line.peers.get n).status.isFresh = true := by
  simp [State.heard, mem_stations]

/-- Settles O11: the content is decoded as it was sent and entered in the sender's slot. -/
theorem peerArrivalEntersSlot : Obligations.PeerArrivalEntersSlot := by
  unfold Obligations.PeerArrivalEntersSlot
  constructor
  · intro s n c m running other fits offered still
    refine State.take_reaches running _ fun t same => ?_
    rw [State.receive_of_content (readBulletin_bulletin n m) (bulletin_sender n m) other m.payload_length
      (peerContentsRoundTrip c m fits offered), State.enterPeer_of_still (s := s.withEcho) still] at same
    exact same
  · intro s n bytes b running other read sender kind length
    refine State.take_reaches running _ fun t same => ?_
    have fits : payloadLength b.kind = some b.payload.length := by rw [kind, length]; rfl
    have content : decodePeer b.kind b.payload = some (.status (decodeStatus b.payload)) := by rw [kind]; rfl
    rw [State.receive_of_content read sender other fits content, State.enterPeer_of_still (.inl rfl)] at same
    have straps : t.straps = s.straps := same.straps
    have peers : t.line.peers = s.line.peers.set n { s.line.peers.get n with status := .fresh (decodeStatus b.payload) s.now } :=
      same.peers
    refine ⟨same, ?_, fun m differs => ?_⟩
    · rw [State.mem_heard_iff, peers, octet_get_set, if_pos rfl]
      exact .inr rfl
    · rw [State.mem_heard_iff, State.mem_heard_iff, peers, octet_get_set, if_neg differs, straps]

end

/-! ## What is discarded -/

theorem readBulletin_of_bad {bytes : List Byte}
    (bad : bytes.length < 4 ∨ 48 < fieldAt bytes 3 1 ∨ bytes.length < fieldAt bytes 3 1 + 6 ∨
      (checksum (bytes.take (4 + fieldAt bytes 3 1))).toNat ≠ fieldAt bytes (4 + fieldAt bytes 3 1) 2) :
    readBulletin bytes = none := by
  rw [readBulletin, if_neg]
  simp only [isGood, Config.maxPayload, Bool.and_eq_true, decide_eq_true_iff, beq_iff_eq]
  rintro ⟨⟨⟨header, short⟩, whole⟩, sum⟩
  rcases bad with cut | long | cut | wrong
  · omega
  · exact absurd long (Nat.not_lt.2 (of_decide_eq_true short))
  · omega
  · exact wrong sum

theorem decodePeer_of_no_slot {kind : Nat} {p : List Byte} (none_ : kind ∉ [4, 5, 13, 14, 16]) : decodePeer kind p = none := by
  simp only [List.mem_cons, List.not_mem_nil, or_false, not_or] at none_
  simp only [decodePeer, StationKind.code, none_, if_false]

theorem decodeCommand_of_station_kind {kind : Nat} {p : List Byte} (station : kind ∈ [3, 4, 5, 13, 14, 16, 19, 20]) :
    decodeCommand kind p = none := by
  simp only [List.mem_cons, List.not_mem_nil, or_false] at station
  rcases station with rfl | rfl | rfl | rfl | rfl | rfl | rfl | rfl <;> rfl

theorem payloadLength_of_no_kind {kind : Nat} (unnamed : kind = 0 ∨ 20 < kind) : payloadLength kind = none := by
  rcases unnamed with rfl | high
  · rfl
  · exact List.getD_eq_default _ _ high

theorem decodeLevel_of_no_kind {p : List Byte} (unnamed : bits (fieldAt p 0 1) 6 5 = 3) : decodeLevel p = none := by
  rw [decodeLevel, unnamed]
  rfl

theorem driveModeOf_of_none {n : Nat} (unnamed : 2 < n) : driveModeOf n = none := by
  unfold driveModeOf
  rw [if_neg (by omega), if_neg (by omega), if_neg (by omega)]

theorem decodeMode_of_none {p : List Byte}
    (unnamed : 3 < fieldAt p 0 1 ∨ (fieldAt p 0 1 = 0 ∧ 1 < fieldAt p 1 1) ∨ (fieldAt p 0 1 = 1 ∧ 3 < fieldAt p 1 1) ∨
      ((fieldAt p 0 1 = 2 ∨ fieldAt p 0 1 = 3) ∧ 2 < fieldAt p 1 1)) : decodeMode p = none := by
  unfold decodeMode
  rcases unnamed with high | ⟨heating, value⟩ | ⟨levelling, value⟩ | ⟨conveyor | auger, value⟩
  · simp only [show fieldAt p 0 1 ≠ 0 by omega, show fieldAt p 0 1 ≠ 1 by omega, show fieldAt p 0 1 ≠ 2 by omega,
      show fieldAt p 0 1 ≠ 3 by omega, if_false]
  · simp only [heating, if_true, show fieldAt p 1 1 ≠ 0 by omega, show fieldAt p 1 1 ≠ 1 by omega, if_false]
  · simp [levelling, Nat.not_lt.2 (show 4 ≤ fieldAt p 1 1 from value)]
  · simp [conveyor, driveModeOf_of_none value]
  · simp [auger, driveModeOf_of_none value]

theorem decodeJog_of_none {p : List Byte} (unnamed : 1 < fieldAt p 0 1) : decodeJog p = none := by
  rw [decodeJog, if_neg (by omega), if_neg (by omega)]

theorem decodePark_of_none {p : List Byte} (unnamed : 1 < fieldAt p 0 1) : decodePark p = none := by
  rw [decodePark, if_neg (by omega), if_neg (by omega)]

theorem decodeSettings_of_none {p : List Byte} (unnamed : 4 < fieldAt p 0 1) : decodeSettings p = none := by
  rw [decodeSettings, if_neg (by omega), if_neg (by omega), if_neg (by omega), if_neg (by omega), if_neg (by omega)]

/-- Settles O12: what is judged bad, the own number, and `arrive_of_untaken` for each bulletin that nothing takes. -/
theorem untakenBulletinsAreDiscarded : Obligations.UntakenBulletinsAreDiscarded := by
  unfold Obligations.UntakenBulletinsAreDiscarded
  refine ⟨?bad, ?own, ?untaken, ?unnamed⟩
  case bad =>
    intro s bytes running bad
    refine State.take_reaches running _ fun t same => ?_
    rwa [State.receive_of_bad (readBulletin_of_bad bad)] at same
  case own =>
    intro s bytes b running read own
    refine State.take_reaches running _ fun t same => ?_
    rw [State.receive_of_own read own] at same
    exact ⟨by rw [same.alarm]; rfl, same⟩
  case untaken =>
    intro s bytes b running read other untaken
    refine State.take_reaches running _ fun t same => ?_
    rw [State.receive_of_untaken read other (fun peer fits => ?_) fun console fits addressed => ?_] at same
    · exact same
    · rcases untaken with ⟨-, slotless⟩ | ⟨console, -⟩ | ⟨console, -⟩ | zero | high | length
      · exact decodePeer_of_no_slot slotless
      · omega
      · omega
      · rw [payloadLength_of_no_kind (.inl zero)] at fits; cases fits
      · rw [payloadLength_of_no_kind (.inr high)] at fits; cases fits
      · exact absurd fits length
    · rcases untaken with ⟨peer, -⟩ | ⟨-, station⟩ | ⟨-, elsewhere, notAll⟩ | zero | high | length
      · omega
      · exact decodeCommand_of_station_kind station
      · exact absurd addressed (not_or.2 ⟨elsewhere, notAll⟩)
      · rw [payloadLength_of_no_kind (.inl zero)] at fits; cases fits
      · rw [payloadLength_of_no_kind (.inr high)] at fits; cases fits
      · exact absurd fits length
  case unnamed =>
    intro s bytes b running read other unnamed
    refine State.take_reaches running _ fun t same => ?_
    rw [State.receive_of_untaken read other (fun peer _ => ?_) fun console _ _ => ?_] at same
    · exact same
    · rcases unnamed with ⟨-, kind, section_⟩ | ⟨console, -⟩ | ⟨console, -⟩ | ⟨console, -⟩ | ⟨console, -⟩
      · rw [kind]
        exact congrArg (Option.map PeerContent.level) (decodeLevel_of_no_kind section_)
      all_goals omega
    · rcases unnamed with ⟨peer, -⟩ | ⟨-, kind, mode⟩ | ⟨-, jog | park, field⟩ | ⟨-, kind, function⟩ | ⟨-, kind, page⟩
      · omega
      · rw [kind]; exact decodeMode_of_none mode
      · rw [jog]; exact decodeJog_of_none field
      · rw [park]; exact decodePark_of_none field
      · simp [kind, decodeCommand, Nat.pos_iff_ne_zero.1 function]
      · rw [kind]; exact congrArg (Option.map LineCommand.settings) (decodeSettings_of_none page)

/-! ## Commands handed on -/

/-- A command's row of the table is the taking of that command. -/
theorem exec_row (c : LineCommand) (sender : Fin 16) (s : State) :
    exec (c.row sender) s = .next (s.take fun t => t.takeCommand sender c) := by
  cases c <;> rfl

/-- Settles O13: the echo changes nothing that STATUS carries, so the event's report is the command's own. -/
theorem lineCommandsReachTheirOwners : Obligations.LineCommandsReachTheirOwners := by
  unfold Obligations.LineCommandsReachTheirOwners
  intro s bytes b c running read console fits addressed command
  have taken := State.receive_of_command read console fits addressed command
  have carried : s.statusStates = s.withEcho.statusStates := State.statusStates_of_line rfl
  have reached : s.take (fun t => t.receive bytes) = s.withEcho.take fun t => t.takeCommand b.sender c := by
    rw [State.take_of_running running, State.take_of_running (s := s.withEcho) running, taken, State.reported, carried]
    rfl
  exact (congrArg Host.Outcome.next reached).trans (exec_row c b.sender s.withEcho).symm

/-! ## Slots that go stale -/

theorem PeerSlot.aged_of_past {α : Type} {c : α} {since limit now : Nat} (past : since + limit < now) :
    (PeerSlot.fresh c since).aged limit now = .stale c := if_pos ((passed_iff _ _ _).2 past)

theorem PeerSlot.isDue_of_past {α : Type} {c : α} {since limit now : Nat} (past : since + limit < now) :
    (PeerSlot.fresh c since).isDue limit now = true := (passed_iff _ _ _).2 past

theorem State.peerAged_of_due {s : State} {n : Fin 8} {k : PeerKind} (due : (s.line.peers.get n).isDue k s.now = true)
    (still : k ≠ .travel ∨ s.straps.encoder = true) :
    s.peerAged n k = s.setPeer n ((s.line.peers.get n).aged k s.now) := by
  unfold State.peerAged
  rw [if_pos due]
  split
  next travel =>
    have encoder : s.straps.encoder = true := still.resolve_left (by simpa using travel)
    exact if_pos encoder
  next => rfl

theorem State.peerAged_of_young {s : State} {n : Fin 8} {k : PeerKind} (young : (s.line.peers.get n).isDue k s.now = false) :
    s.peerAged n k = s := if_neg (by simp [young])

/-- Settles O14: an aged slot keeps its content as STALE, and a young one is left. -/
theorem peerSlotsTurnStale : Obligations.PeerSlotsTurnStale := by
  unfold Obligations.PeerSlotsTurnStale
  refine ⟨?travel, ?height, ?demand, ?level, ?status, ?young⟩
  case travel =>
    intro s n c since running encoder fresh past
    refine State.take_reaches running _ fun t same => ?_
    have due : (s.line.peers.get n).isDue .travel s.now = true := by
      rw [PeerEntry.isDue, fresh]; exact PeerSlot.isDue_of_past past
    rw [State.peerAged_of_due due (.inr encoder), PeerEntry.aged, fresh] at same
    rwa [← PeerSlot.aged_of_past past]
  case height =>
    intro s n c since running fresh past
    refine State.take_reaches running _ fun t same => ?_
    have due : (s.line.peers.get n).isDue .height s.now = true := by
      rw [PeerEntry.isDue, fresh]; exact PeerSlot.isDue_of_past past
    rw [State.peerAged_of_due due (.inl nofun), PeerEntry.aged, fresh] at same
    rwa [← PeerSlot.aged_of_past past]
  case demand =>
    intro s n c since running fresh past
    refine State.take_reaches running _ fun t same => ?_
    have due : (s.line.peers.get n).isDue .demand s.now = true := by
      rw [PeerEntry.isDue, fresh]; exact PeerSlot.isDue_of_past past
    rw [State.peerAged_of_due due (.inl nofun), PeerEntry.aged, fresh] at same
    rwa [← PeerSlot.aged_of_past past]
  case level =>
    intro s n c since running fresh past
    refine State.take_reaches running _ fun t same => ?_
    have due : (s.line.peers.get n).isDue .level s.now = true := by
      rw [PeerEntry.isDue, fresh]; exact PeerSlot.isDue_of_past past
    rw [State.peerAged_of_due due (.inl nofun), PeerEntry.aged, fresh] at same
    rwa [← PeerSlot.aged_of_past past]
  case status =>
    intro s n c since running fresh past
    refine State.take_reaches running _ fun t same => ?_
    have due : (s.line.peers.get n).isDue .status s.now = true := by
      rw [PeerEntry.isDue, fresh]; exact PeerSlot.isDue_of_past past
    have stale : (s.line.peers.get n).aged .status s.now = { s.line.peers.get n with status := .stale c } := by
      rw [PeerEntry.aged, fresh]
      exact congrArg (fun slot => { s.line.peers.get n with status := slot }) (PeerSlot.aged_of_past past)
    rw [State.peerAged_of_due due (.inl nofun), stale] at same
    have straps : t.straps = s.straps := same.straps
    have peers : t.line.peers = s.line.peers.set n { s.line.peers.get n with status := .stale c } := same.peers
    refine ⟨same, fun other => ?_⟩
    rw [State.mem_heard_iff, straps, peers, octet_get_set, if_pos rfl]
    rintro (own | fresh)
    · exact other own
    · cases fresh
  case young =>
    intro s n k ready young
    exact congrArg Host.Outcome.next (State.take_of_unchanged ready (State.peerAged_of_young young) ready.2 rfl)

/-! ## Cadences -/

theorem State.SameButStatus.trans {s t u : State} (h : State.SameButStatus s t) (k : State.SameButStatus t u) :
    State.SameButStatus s u := by
  unfold State.SameButStatus at *
  rw [h] at k
  exact k

/-- An event that leaves a STATUS of the present state offered ends with one offered. -/
theorem State.reported_keeps_newest {before after : State} {n : Nat}
    (offered : after.line.queue.status.newest = some (.status after.formStatus n)) :
    ∃ m, (State.reported before after).line.queue.status.newest =
      some (.status (State.reported before after).formStatus m) := by
  unfold State.reported
  split
  · rw [after.offerStatus_sameButStatus.formStatus]
    exact ⟨_, after.offerStatus_newest⟩
  · exact ⟨n, offered⟩

/-- Settles O15: each cadence's effect, its next period from the time that came. -/
theorem cadencesOffer : Obligations.CadencesOffer := by
  unfold Obligations.CadencesOffer
  refine ⟨?travel, ?height, ?level, ?status, ?idle⟩
  case travel =>
    intro s d running timer reached
    refine State.takeExpiry_reaches running timer reached _ fun t same => ?_
    rw [State.offerTravel, timer] at same
    exact same
  case height =>
    intro s d running timer reached
    refine State.takeExpiry_reaches running timer reached _ fun t same => ?_
    rw [State.offerHeight, timer] at same
    simp only [Bool.and_eq_true, bne_iff_ne] at same
    exact same
  case level =>
    intro s d running timer reached
    refine State.takeExpiry_reaches running timer reached _ fun t same => ?_
    rw [State.offerLevel, timer] at same
    simp only [Bool.or_eq_true] at same
    exact same
  case status =>
    intro s d running timer reached
    have due : s.takeExpiry s.sup.cadence State.statusDue = State.reported s s.statusDue := by
      rw [timer, State.takeExpiry_of_due reached, State.take_of_running running]
    refine ⟨_, congrArg Host.Outcome.next due, ?_, ?_⟩
    · refine State.SameButStatus.trans ?_ (State.reported_sameButStatus s s.statusDue)
      rw [State.statusDue, timer]
      exact State.offerStatus_sameButStatus _
    · have offered := State.offerStatus_newest
        { s with sup := { s.sup with cadence := nextPeriod s.sup.cadence Config.statusCadence } }
      rw [← (State.offerStatus_sameButStatus _).formStatus] at offered
      exact State.reported_keeps_newest offered
  case idle =>
    intro s d running timer reached
    refine State.takeExpiry_reaches running timer reached _ fun t same => ?_
    rw [State.idleDemand, timer] at same
    exact same

end Sys2Proof.Machine
end

section
/-! PROOFS. Pulses, speed and the handing over of the travel record (R23 to R29, R33, R34). -/

namespace Sys2Proof.Machine

/-! ## Pulses lose nothing -/

/-- A quotient and a remainder below the divisor are the only ones of their sum. -/
theorem quotient_unique {p q m q' m' : Nat} (small : m < p) (small' : m' < p) (same : p * q + m = p * q' + m') : q = q' ∧ m = m' := by
  have quotient : q = q' := by
    have divided := congrArg (· / p) same
    simpa [Nat.mul_add_div (Nat.lt_of_le_of_lt (Nat.zero_le m) small), Nat.div_eq_of_lt small, Nat.div_eq_of_lt small'] using divided
  subst quotient
  exact ⟨rfl, by omega⟩

/-- After `k` of `p` forward pulses the centimetres and the remainder together are the start's remainder and `100 × k`. -/
theorem forwardPulse_iterate {p r c : Nat} (wide : 100 ≤ p) (small : r < p) (room : c + 100 ≤ 2147483647) :
    ∀ k ≤ p, ∃ m q, (fun x : Nat × Nat => forwardPulse x.1 x.2 p)^[k] (r, c) = (m, c + q) ∧ m < p ∧
      p * q + m = r + 100 * k
  | 0, _ => ⟨r, 0, rfl, small, by omega⟩
  | k + 1, within => by
    obtain ⟨m, q, reached, below, account⟩ := forwardPulse_iterate wide small room k (by omega)
    rw [Function.iterate_succ_apply', reached, forwardPulse_eq]
    split_ifs with short full
    · exact ⟨m + 100, q, rfl, short, by omega⟩
    · have bound : p * (q + 1) < p * 101 := by rw [Nat.mul_add]; omega
      have low := Nat.lt_of_mul_lt_mul_left bound
      omega
    · exact ⟨m + 100 - p, q + 1, rfl, by omega, by rw [Nat.mul_add]; omega⟩

/-- Settles O17: by the account over the pulses, and one step of each direction. -/
theorem pulsesLoseNothingToRounding : Obligations.PulsesLoseNothingToRounding := by
  unfold Obligations.PulsesLoseNothingToRounding
  constructor
  · intro p r c wide small room
    obtain ⟨m, q, reached, below, account⟩ := forwardPulse_iterate wide small room p le_rfl
    have whole : p * q + m = p * 100 + r := by omega
    obtain ⟨metre, same⟩ := quotient_unique below small whole
    rw [reached, metre, same]
  · intro p r c wide small room
    rw [forwardPulse_eq]
    split_ifs with short full
    · simp [backwardPulse]
    · omega
    · simp only [backwardPulse, if_neg (show ¬100 ≤ r + 100 - p by omega), if_neg (Nat.succ_ne_zero c)]
      exact Prod.ext (by simp only; omega) rfl

/-! ## Speed -/

theorem speedOf_eq (net : Int) (p : Nat) :
    speedOf net p = max (-250) (min 250 (Int.tdiv (max (-32767) (min 32767 net) * 1200) p)) := by
  rw [speedOf, clampInt_eq (by decide), clampInt_eq (by decide)]
  rfl

/-- Settles O18: the two branches of `closeBin`. -/
theorem speedFollowsFiveBins : Obligations.SpeedFollowsFiveBins := by
  unfold Obligations.SpeedFollowsFiveBins
  intro s d running timer reached
  refine State.takeExpiry_reaches running timer reached _ fun t same => ?_
  unfold Travel.closeBin at same
  rw [timer] at same
  cases page : s.travel.page with
  | none =>
    simp only [page] at same ⊢
    exact same
  | some p =>
    simp only [page, speedOf_eq] at same ⊢
    exact same

/-! ## What the Row Builder is handed -/

section
variable {s : State} {t : Travel}

/-- The Row Builder is handed the state with the side as the Levelling Controller left it. -/
theorem State.setTravel_cases (s : State) (t : Travel) (rebased : Bool) :
    ∃ u : State, s.setTravel t rebased = u.travelToRows s.travel rebased ∧ u.travel = t ∧ u.rows = s.rows ∧ u.ring = s.ring ∧
      u.identity = s.identity ∧ u.now = s.now ∧ u.sup.station = s.sup.station ∧ u.settings = s.settings ∧ u.heat = s.heat := by
  have frame := State.travelToLevel_frame { s with travel := t } s.travel
  refine ⟨({ s with travel := t } : State).travelToLevel s.travel, rfl, ?_⟩
  rw [frame]
  exact ⟨rfl, rfl, rfl, rfl, rfl, rfl, rfl, rfl⟩

theorem State.endRow_openRow_of_not_paving (still : s.travel.state ≠ .paving) : s.endRow.rows.openRow = none := by
  have frame := s.applyRecordPage_frame
  unfold State.endRow
  rw [State.tryOpenRow_of_not_paving (by rw [frame]; exact still)]

theorem State.closeEarly_openRow_of_not_paving (r : OpenRow) (cause : CloseCause) (still : s.travel.state ≠ .paving) :
    (s.closeEarly r cause).rows.openRow = none := by
  unfold State.closeEarly
  dsimp only
  split
  · split_ifs
    · exact State.endRow_openRow_of_not_paving still
    · refine State.endRow_openRow_of_not_paving ?_
      rw [show ∀ (a : State) (r : Rows), ({ a with rows := r } : State).travel = a.travel from fun _ _ => rfl,
        s.commitRow_frame]
      exact still
  · exact State.endRow_openRow_of_not_paving still

theorem State.rebaseRows_openRow (still : s.travel.state ≠ .paving) : s.rebaseRows.rows.openRow = none := by
  unfold State.rebaseRows
  dsimp only
  split
  next r found => exact State.closeEarly_openRow_of_not_paving r .rebase still
  next absent => exact absent

theorem State.rebaseRows_handed (s : State) :
    s.rebaseRows.rows.highWater = none ∧ s.rebaseRows.rows.continuation = none ∧
      s.rebaseRows.rows.lastChainage = s.rebaseRows.travel.chainage ∧ s.rebaseRows.rows.lastEpoch = s.rebaseRows.travel.epoch :=
  ⟨rfl, rfl, rfl, rfl⟩

/-- What a rebase at a station with a scanner leaves of the rows (R141). -/
structure State.Rebased (u : State) (t : Travel) : Prop where
  openRow : u.rows.openRow = none
  highWater : u.rows.highWater = none
  continuation : u.rows.continuation = none
  chainage : u.rows.lastChainage = t.chainage
  epoch : u.rows.lastEpoch = t.epoch

theorem State.rebaseRows_rebased (still : s.travel.state ≠ .paving) : s.rebaseRows.Rebased s.travel := by
  obtain ⟨highWater, continuation, chainage, epoch⟩ := s.rebaseRows_handed
  have same : s.rebaseRows.travel = s.travel := s.rebaseRows_frame.travel
  exact ⟨State.rebaseRows_openRow still, highWater, continuation, by rw [chainage, same], by rw [epoch, same]⟩

theorem State.setTravel_rebased (scanner : s.straps.scanner = true) (still : t.state ≠ .paving) :
    (s.setTravel t true).Rebased t := by
  obtain ⟨u, set, travel, -, -, identity, -⟩ := s.setTravel_cases t true
  subst travel
  have fitted : u.straps.scanner = true := by rw [State.straps, identity]; exact scanner
  rw [set]
  unfold State.travelToRows State.chainageToRows
  simp only [if_pos fitted, if_true]
  split_ifs
  · exact State.rebaseRows_rebased still
  · rw [State.tryOpenRow_of_not_paving (by rw [State.rebaseRows_frame]; exact still)]
    exact State.rebaseRows_rebased (s := u.markTravel) still

end

/-- Settles O20: the record that is set, and what a rebase makes of the rows in a state other than PAVING. -/
theorem rebaseSetsTravel : Obligations.RebaseSetsTravel := by
  unfold Obligations.RebaseSetsTravel
  intro s value running
  refine State.take_reaches running _ fun t same => ?_
  have travel : t.travel = _ := same.travel.trans (State.setTravel_travel s _ true)
  have frame := s.setTravel_frame
    (({ s.travel with
        chainage := min value.toNat Config.maxRebase, remainder := 0, epoch := s.travel.epoch + 1 } : Travel).enter
      s.travel.restState) true
  refine ⟨?_, ?_, ?_, ?_, ?_, fun scanner => ?_⟩
  · rw [travel]
    simp only [Travel.enter, Travel.restState, Bool.and_eq_true, beq_iff_eq, Config.maxRebase]
  · rw [same.heat, State.takeRebase, frame]
  · rw [same.load, State.takeRebase, frame]
  · rw [same.feed, State.takeRebase, frame]
  · rw [same.settings, State.takeRebase, frame]
  · obtain ⟨openRow, highWater, continuation, chainage, epoch⟩ := State.setTravel_rebased
      (t := (({ s.travel with
        chainage := min value.toNat Config.maxRebase, remainder := 0, epoch := s.travel.epoch + 1 } : Travel).enter
          s.travel.restState)) scanner (by unfold Travel.enter Travel.restState; split_ifs <;> simp)
    rw [same.rows, travel]
    exact ⟨openRow, highWater, continuation, chainage, epoch⟩

end Sys2Proof.Machine
end

section
/-! PROOFS. What a change of the encoder channels does to the travel record and to the open row (R23 to R25, R28, R136), and the stop
timer's expiry (R29, R106, R112). -/

namespace Sys2Proof.Machine

/-! ## The open row at a change of travel -/

section
variable {s : State} {t : Travel} {r : OpenRow}

/-- The open row after the travel state that is handed on (R136). -/
def OpenRow.handedOn (r : OpenRow) (before after : TravelState) (now : Nat) : OpenRow :=
  if before = after then r else r.travelChanged after now

theorem OpenRow.travelChanged_finish (r : OpenRow) (state : TravelState) (now : Nat) :
    (r.travelChanged state now).finish = r.finish := by
  cases state <;> rfl

theorem State.tryOpenRow_of_open (found : s.rows.openRow = some r) : s.tryOpenRow = s := by
  rw [State.tryOpenRow, found]

theorem State.closeAtEnd_of_short (found : s.rows.openRow = some r) (short : s.rows.lastChainage < r.finish) :
    s.closeAtEnd = s := by
  unfold State.closeAtEnd
  rw [found]
  cases s.rows.page with
  | none => rfl
  | some page => exact if_neg (Nat.not_le.2 short)

/-- A change of chainage short of the open row's end leaves the row open. -/
theorem State.chainageToRows_openRow {before : Travel} (found : s.rows.openRow = some r) (short : s.travel.chainage < r.finish) :
    (s.chainageToRows before false).rows.openRow = some r := by
  unfold State.chainageToRows
  rw [if_neg Bool.false_ne_true]
  split
  · exact found
  · rw [State.closeAtEnd_of_short (s := s.handChainage) found short]
    exact found

/-- An open row whose end is not reached goes on, marked at a change of travel state (R136). -/
theorem State.setTravel_openRow (scanner : s.straps.scanner = true) (found : s.rows.openRow = some r)
    (short : t.chainage < r.finish) :
    (s.setTravel t false).rows.openRow = some (r.handedOn s.travel.state t.state s.now) := by
  obtain ⟨u, set, travel, rows, -, identity, now, -⟩ := s.setTravel_cases t false
  subst travel
  have fitted : u.straps.scanner = true := by rw [State.straps, identity]; exact scanner
  have opened : u.rows.openRow = some r := by rw [rows]; exact found
  rw [set, State.travelToRows, if_pos fitted, ← now, OpenRow.handedOn]
  simp only [beq_iff_eq]
  split
  next kept => exact State.chainageToRows_openRow opened short
  next changed =>
    have marked : u.markTravel.rows.openRow = some (r.travelChanged u.travel.state u.now) := by
      simp [State.markTravel, opened]
    have handed := State.chainageToRows_openRow (before := s.travel) marked
      (by rw [OpenRow.travelChanged_finish]; exact short)
    rw [State.tryOpenRow_of_open handed]
    exact handed

theorem State.chainageToRows_of_still {before : Travel} (still : before.chainage = s.travel.chainage) :
    s.chainageToRows before false = s := by
  unfold State.chainageToRows
  rw [if_neg Bool.false_ne_true, if_pos (by simp [still])]

/-- A stop with the chainage unchanged closes and opens no row. -/
theorem State.setTravel_rows_of_stop (scanner : s.straps.scanner = true) (still : t.chainage = s.travel.chainage)
    (changed : s.travel.state ≠ t.state) (stopped : t.state ≠ .paving) :
    (s.setTravel t false).rows =
      { s.rows with openRow := s.rows.openRow.map fun r => r.travelChanged t.state s.now } := by
  obtain ⟨u, set, travel, rows, -, identity, now, -⟩ := s.setTravel_cases t false
  subst travel
  have fitted : u.straps.scanner = true := by rw [State.straps, identity]; exact scanner
  have handed : u.markTravel.chainageToRows s.travel false = u.markTravel := State.chainageToRows_of_still still.symm
  rw [set, State.travelToRows, if_pos fitted, if_neg (by simp [changed]), handed,
    State.tryOpenRow_of_not_paving (s := u.markTravel) stopped, ← now, ← rows]
  rfl

/-- With the chainage unchanged no row closes, so the ring stays. -/
theorem State.setTravel_ring_of_still (still : t.chainage = s.travel.chainage) : (s.setTravel t false).ring = s.ring := by
  obtain ⟨u, set, travel, -, ring, -⟩ := s.setTravel_cases t false
  subst travel
  rw [set, ← ring]
  unfold State.travelToRows
  split
  · split
    · rw [State.chainageToRows_of_still still.symm]
    · rw [State.chainageToRows_of_still (s := u.markTravel) still.symm, State.tryOpenRow_ring]
      rfl
  · rfl

end

/-! ## The quadrature position -/

section
variable {t : Travel}

theorem Travel.pairChange_forward (pair : Fin 4) (now : Nat) : t.pairChange pair (pair + 1) now = t.step true now := if_pos rfl

theorem Travel.pairChange_backward (pair : Fin 4) (now : Nat) : t.pairChange pair (pair + 3) now = t.step false now := by
  unfold Travel.pairChange
  rw [if_neg (by revert pair; decide), if_pos (by revert pair; decide)]

theorem Travel.pairChange_none {before after : Fin 4} (now : Nat) (discarded : after = before ∨ after = before + 2) :
    t.pairChange before after now = t := by
  unfold Travel.pairChange
  rcases discarded with rfl | rfl
  · rw [if_neg (by revert after; decide), if_neg (by revert after; decide)]
  · rw [if_neg (by revert before; decide), if_neg (by revert before; decide)]

/-- The pair that a step in a direction ends on. -/
def steppedPair (forward : Bool) (pair : Fin 4) : Fin 4 := if forward then pair + 1 else pair + 3

theorem Travel.pairChange_stepped (forward : Bool) (pair : Fin 4) (now : Nat) :
    t.pairChange pair (steppedPair forward pair) now = t.step forward now := by
  cases forward with
  | true => exact Travel.pairChange_forward pair now
  | false => exact Travel.pairChange_backward pair now

/-- The fourth net step in one direction completes a pulse. -/
theorem Travel.step_of_fourth {forward : Bool} (now : Nat) (third : t.steps = if forward then 3 else -3) :
    t.step forward now = ({ t with steps := 0 } : Travel).pulse forward now := by
  cases forward with
  | true =>
    have fourth : t.steps + 1 = 4 := by rw [third]; rfl
    exact if_pos fourth
  | false =>
    have fourth : t.steps - 1 = -4 := by rw [third]; rfl
    unfold Travel.step
    rw [if_neg Bool.false_ne_true, fourth]
    rfl

theorem Travel.step_of_inner {forward : Bool} (now : Nat) (low : t.steps + (if forward then 1 else -1) ≠ -4)
    (high : t.steps + (if forward then 1 else -1) ≠ 4) :
    t.step forward now = { t with steps := t.steps + (if forward then 1 else -1) } := by
  have steps : (if forward = true then t.steps + 1 else t.steps - 1) = t.steps + (if forward = true then 1 else -1) := by
    cases forward <;> rfl
  unfold Travel.step
  rw [steps]
  dsimp only
  rw [if_neg high, if_neg low]

/-! ## The pulse -/

/-- The remainder and the chainage after a pulse in a direction (R24, R25). -/
def pulsed (forward : Bool) (remainder chainage p : Nat) : Nat × Nat :=
  (if forward then forwardPulse else backwardPulse) remainder chainage p

/-- A calibrated record with a pulse counted and its remainder set, before the chainage moves. -/
def Travel.counted (t : Travel) (forward : Bool) (page : TravelPage) : Travel :=
  { t with
    steps := 0, remainder := (pulsed forward t.remainder t.chainage page.pulsesPerMetre).1
    currentBin := t.currentBin + (if forward then 1 else -1) }

theorem Travel.step_of_calibrated {forward : Bool} {page : TravelPage} (now : Nat) (calibrated : t.page = some page)
    (third : t.steps = if forward then 3 else -3) :
    t.step forward now =
      (t.counted forward page).moveTo (pulsed forward t.remainder t.chainage page.pulsesPerMetre).2 now := by
  rw [Travel.step_of_fourth now third, Travel.pulse]
  split
  next absent => cases calibrated.symm.trans absent
  next applied found =>
    obtain rfl : page = applied := Option.some.inj (calibrated.symm.trans found)
    rfl

theorem Travel.step_of_uncalibrated {forward : Bool} (now : Nat) (uncalibrated : t.page = none)
    (third : t.steps = if forward then 3 else -3) : t.step forward now = { t with steps := 0 } := by
  rw [Travel.step_of_fourth now third, Travel.pulse]
  split
  next => rfl
  next applied found => cases uncalibrated.symm.trans found

theorem Travel.moveTo_of_still (t : Travel) (now : Nat) : t.moveTo t.chainage now = t := if_pos rfl

end

/-! ## The change as the station takes it -/

section
variable {s : State}

/-- The station with the encoder pins changed. -/
def State.withPair (s : State) (pair : Fin 4) : State := { s with pins := { s.pins with encoder := pair } }

theorem State.encoderChanged_of_encoder {pair : Fin 4} (encoder : s.straps.encoder = true) :
    s.encoderChanged pair = (s.withPair pair).setTravel (s.travel.pairChange s.pins.encoder pair s.now) false := if_pos encoder

theorem State.encoderChanged_stepped {forward : Bool} (encoder : s.straps.encoder = true) :
    s.encoderChanged (steppedPair forward s.pins.encoder) =
      (s.withPair (steppedPair forward s.pins.encoder)).setTravel (s.travel.step forward s.now) false := by
  rw [State.encoderChanged_of_encoder encoder, Travel.pairChange_stepped]

/-- A change at a running part, whatever it makes of the state but for a STATUS offer. -/
theorem exec_encoderChange_reaches (running : s.phase = .running) (pair : Fin 4) {P : State → Prop}
    (hP : ∀ t, State.SameButStatus (s.encoderChanged pair) t → P t) : ∃ t, exec (.encoderChange pair) s = .next t ∧ P t := by
  have taken : exec (.encoderChange pair) s = .next (s.take fun t => t.encoderChanged pair) :=
    congrArg Host.Outcome.next (if_pos (by simp [running]))
  rw [taken]
  exact State.take_reaches running _ hP

/-- A change that moves neither the chainage nor the travel state sets the travel record alone. -/
theorem State.encoderChanged_of_still {pair : Fin 4} {t : Travel} (encoder : s.straps.encoder = true)
    (change : s.travel.pairChange s.pins.encoder pair s.now = t) (chainage : t.chainage = s.travel.chainage)
    (state : t.state = s.travel.state) : s.encoderChanged pair = { s.withPair pair with travel := t } := by
  rw [State.encoderChanged_of_encoder encoder, change]
  exact State.setTravel_of_still (s := s.withPair pair) chainage state

theorem State.encoderChanged_inner {forward : Bool} (encoder : s.straps.encoder = true)
    (low : s.travel.steps + (if forward then 1 else -1) ≠ -4) (high : s.travel.steps + (if forward then 1 else -1) ≠ 4) :
    s.encoderChanged (steppedPair forward s.pins.encoder) =
      { s.withPair (steppedPair forward s.pins.encoder) with
        travel := { s.travel with steps := s.travel.steps + (if forward then 1 else -1) } } :=
  State.encoderChanged_of_still encoder ((Travel.pairChange_stepped forward _ _).trans (Travel.step_of_inner _ low high)) rfl rfl

/-- What a completed pulse at a calibrated station leaves, whatever it moves. -/
theorem exec_encoderChange_pulse {page : TravelPage} {forward : Bool} (running : s.phase = .running)
    (encoder : s.straps.encoder = true) (calibrated : s.travel.page = some page)
    (third : s.travel.steps = if forward then 3 else -3) :
    ∃ t, exec (.encoderChange (steppedPair forward s.pins.encoder)) s = .next t ∧
      t.pins = { s.pins with encoder := steppedPair forward s.pins.encoder } ∧
      t.travel.steps = 0 ∧ t.travel.currentBin = s.travel.currentBin + (if forward then 1 else -1) ∧
      t.travel.epoch = s.travel.epoch ∧
      t.travel.remainder = (pulsed forward s.travel.remainder s.travel.chainage page.pulsesPerMetre).1 ∧
      t.travel.chainage = (pulsed forward s.travel.remainder s.travel.chainage page.pulsesPerMetre).2 ∧
      t.heat = s.heat ∧ t.load = s.load ∧ t.feed = s.feed ∧ t.settings = s.settings ∧ t.identity = s.identity := by
  refine exec_encoderChange_reaches running _ fun t same => ?_
  rw [State.encoderChanged_stepped encoder, Travel.step_of_calibrated _ calibrated third] at same
  have travel := same.travel
  rw [State.setTravel_travel] at travel
  obtain ⟨chainage, remainder, bin, epoch, steps, -⟩ := Travel.moveTo_keeps (s.travel.counted forward page)
    (pulsed forward s.travel.remainder s.travel.chainage page.pulsesPerMetre).2 s.now
  have frame := State.setTravel_frame (s.withPair (steppedPair forward s.pins.encoder))
    ((s.travel.counted forward page).moveTo (pulsed forward s.travel.remainder s.travel.chainage page.pulsesPerMetre).2 s.now)
    false
  refine ⟨?_, ?_, ?_, ?_, ?_, ?_, ?_, ?_, ?_, ?_, ?_⟩
  · rw [same.pins, frame]; rfl
  · rw [travel, steps]; rfl
  · rw [travel, bin]; rfl
  · rw [travel, epoch]; rfl
  · rw [travel, remainder]; rfl
  · rw [travel, chainage]
  · rw [same.heat, frame]; rfl
  · rw [same.load, frame]; rfl
  · rw [same.feed, frame]; rfl
  · rw [same.settings, frame]; rfl
  · rw [same.identity, frame]; rfl

/-- What a pulse that moves the chainage to `c` makes of the travel record and of an open row that goes on. -/
theorem exec_encoderChange_moves {page : TravelPage} {forward : Bool} {c m : Nat} (running : s.phase = .running)
    (encoder : s.straps.encoder = true) (calibrated : s.travel.page = some page)
    (third : s.travel.steps = if forward then 3 else -3)
    (moved : pulsed forward s.travel.remainder s.travel.chainage page.pulsesPerMetre = (m, c)) (moves : c ≠ s.travel.chainage) :
    ∃ t, exec (.encoderChange (steppedPair forward s.pins.encoder)) s = .next t ∧ t.travel.chainage = c ∧
      (t.travel.state, t.travel.mark, t.travel.stopTimer) =
        s.travel.ruled c (s.now + 10000 * page.stopTime) (decide (s.travel.chainage < c)) ∧
      ∀ r, s.straps.scanner = true → s.rows.openRow = some r → c < r.finish →
        t.rows.openRow = some (r.handedOn s.travel.state t.travel.state s.now) := by
  refine exec_encoderChange_reaches running _ fun t same => ?_
  rw [State.encoderChanged_stepped encoder, Travel.step_of_calibrated _ calibrated third, moved] at same
  have travel := same.travel
  rw [State.setTravel_travel] at travel
  have ruled := Travel.moveTo_eq_ruled (t := s.travel.counted forward page) calibrated (c := c) moves s.now
  refine ⟨?_, ?_, fun r scanner found short => ?_⟩
  · rw [travel, ruled]
  · rw [travel, ruled]; rfl
  · rw [same.rows, travel]
    refine State.setTravel_openRow (s := s.withPair _) scanner found ?_
    rw [ruled]
    exact short

end

theorem OpenRow.handedOn_of_same (r : OpenRow) {before after : TravelState} (now : Nat) (same : after = before) :
    r.handedOn before after now = r := if_pos same.symm

theorem OpenRow.handedOn_of_change (r : OpenRow) {before after : TravelState} (now : Nat) (change : before ≠ after) :
    r.handedOn before after now = r.travelChanged after now := if_neg change

/-- Settles O16: the step of the quadrature position, and at the fourth the pulse, by whether it moves the chainage. -/
theorem encoderPulsesMoveChainage : Obligations.EncoderPulsesMoveChainage := by
  unfold Obligations.EncoderPulsesMoveChainage
  refine ⟨?forward, ?backward, ?moves, ?still, ?uncalibrated, ?stepForward, ?stepBackward, ?discarded⟩
  case forward =>
    intro s page running encoder calibrated third
    obtain ⟨t, done, pins, steps, bin, epoch, remainder, chainage, rest⟩ :=
      exec_encoderChange_pulse (forward := true) running encoder calibrated third
    refine ⟨t, done, pins, steps, bin, epoch, ?_, rest⟩
    rw [remainder, chainage]
    unfold pulsed forwardPulse Config.maxChainage
    simp only [if_true]
    split_ifs <;> rfl
  case backward =>
    intro s page running encoder calibrated third
    obtain ⟨t, done, pins, steps, bin, epoch, remainder, chainage, rest⟩ :=
      exec_encoderChange_pulse (forward := false) running encoder calibrated third
    refine ⟨t, done, pins, steps, bin, epoch, ?_, rest⟩
    rw [remainder, chainage]
    unfold pulsed backwardPulse
    simp only [Bool.false_eq_true, if_false]
    split_ifs <;> rfl
  case moves =>
    intro s page forward c running encoder calibrated third ahead back
    have moved : ∃ m, pulsed forward s.travel.remainder s.travel.chainage page.pulsesPerMetre = (m, c) := by
      cases forward with
      | true =>
        obtain ⟨full, room, rfl⟩ := ahead rfl
        exact ⟨_, (if_neg (by omega)).trans (if_neg (Nat.not_le.2 room))⟩
      | false =>
        obtain ⟨empty, below⟩ := back rfl
        have lower : s.travel.chainage - 1 = c := by omega
        exact ⟨s.travel.remainder + page.pulsesPerMetre - 100,
          (if_neg (by omega)).trans ((if_neg (by omega)).trans (congrArg (Prod.mk _) lower))⟩
    have rises : decide (s.travel.chainage < c) = forward ∧ c ≠ s.travel.chainage := by
      cases forward with
      | true =>
        obtain ⟨-, -, rfl⟩ := ahead rfl
        exact ⟨by simp, by omega⟩
      | false =>
        obtain ⟨-, below⟩ := back rfl
        exact ⟨by simp; omega, by omega⟩
    obtain ⟨rises, differs⟩ := rises
    obtain ⟨m, moved⟩ := moved
    obtain ⟨t, done, chainage, ruled, row⟩ := exec_encoderChange_moves running encoder calibrated third moved differs
    rw [rises] at ruled
    refine ⟨t, done, chainage, ruled, fun r scanner found short => ?_⟩
    have row := row r scanner found short
    refine ⟨fun kept => ?_, fun other reversing => ?_, fun other paving => ?_⟩
    · rw [row, OpenRow.handedOn_of_same r _ kept]
    · rw [row, reversing, OpenRow.handedOn_of_change r _ other]; rfl
    · rw [row, paving, OpenRow.handedOn_of_change r _ other]; rfl
  case still =>
    intro s page forward running encoder calibrated third held
    refine exec_encoderChange_reaches running _ fun t same => ?_
    have stays : (pulsed forward s.travel.remainder s.travel.chainage page.pulsesPerMetre).2 = s.travel.chainage := by
      cases forward with
      | true =>
        simp only [pulsed, if_true, forwardPulse_eq] at held ⊢
        rcases held with short | full
        · rw [if_pos short]
        · split
          · rfl
          · rfl
      | false =>
        simp only [pulsed, Bool.false_eq_true, if_false, backwardPulse] at held ⊢
        rcases held with left | zero
        · rw [if_pos left]
        · rw [if_pos zero]
          split
          · rfl
          · exact zero.symm
    have step : s.travel.pairChange s.pins.encoder (steppedPair forward s.pins.encoder) s.now = s.travel.counted forward page := by
      rw [Travel.pairChange_stepped, Travel.step_of_calibrated _ calibrated third, stays]
      exact Travel.moveTo_of_still (s.travel.counted forward page) s.now
    have kept := State.encoderChanged_of_still encoder step rfl rfl
    rw [steppedPair] at kept
    rw [kept] at same
    exact ⟨by rw [same.travel]; rfl, by rw [same.travel]; rfl, by rw [same.travel]; rfl, same.level, same.rows, same.ring⟩
  case uncalibrated =>
    intro s forward running encoder uncalibrated third
    refine exec_encoderChange_reaches running _ fun t same => ?_
    have kept := State.encoderChanged_of_still encoder ((Travel.pairChange_stepped forward s.pins.encoder s.now).trans
      (Travel.step_of_uncalibrated s.now uncalibrated third)) rfl rfl
    rw [steppedPair] at kept
    rwa [kept] at same
  case stepForward =>
    intro s running encoder low high
    refine exec_encoderChange_reaches running _ fun t same => ?_
    have kept := State.encoderChanged_inner (forward := true) encoder (by simp; omega) (by simp; omega)
    exact kept ▸ same
  case stepBackward =>
    intro s running encoder low high
    refine exec_encoderChange_reaches running _ fun t same => ?_
    have kept := State.encoderChanged_inner (forward := false) encoder (by simp; omega) (by simp; omega)
    exact kept ▸ same
  case discarded =>
    intro s pair running discarded
    refine exec_encoderChange_reaches running _ fun t same => ?_
    cases encoder : s.straps.encoder with
    | false =>
      have kept : s.encoderChanged pair = s.withPair pair := if_neg (by simp [encoder])
      rwa [kept] at same
    | true =>
      have skipped : pair = s.pins.encoder ∨ pair = s.pins.encoder + 2 := discarded.resolve_left (by simp [encoder])
      rwa [State.encoderChanged_of_still encoder (Travel.pairChange_none s.now skipped) rfl rfl] at same

/-! ## The stop timer's expiry -/

section
variable {s : State}

/-- What the Levelling Controller makes of the paver's leaving PAVING. -/
theorem State.stopExpired_level (fitted : s.levelling = true) (paving : s.travel.state = .paving) :
    s.stopExpired.level = (State.leavePaving { s with travel := s.travel.enter .stopped }).level := by
  have levels : State.levelling { s with travel := s.travel.enter .stopped } = true := fitted
  rw [State.stopExpired, State.setTravel_level, State.travelToLevel, if_pos levels, if_pos (by simp [paving, Travel.enter])]

theorem State.leavePaving_of_free (auto : isAuto s.level.mode = true)
    (free : s.level.condition = .active ∨ s.level.condition = .hold) : s.leavePaving = s.freeze := by
  rw [State.leavePaving, if_pos auto]
  rcases free with active | hold
  · rw [active]
  · rw [hold]

theorem State.leavePaving_of_settling (auto : isAuto s.level.mode = true) (settling : s.level.condition = .settling) :
    s.leavePaving = s.nestStop := by
  rw [State.leavePaving, if_pos auto, settling]

theorem saturate_eq_min (high n : Nat) : saturate high n = min high n := by
  unfold saturate
  split_ifs <;> omega

/-- The pending move of a freeze: the running pulse's whole remaining milliseconds, when there is at least one (R97, R106). -/
theorem Driver.handedBack_kept (d : Driver) (now : Nat) :
    (match d.handedBack now with
      | some (d, n) => if 1 ≤ n then some (d, n) else none
      | none => none) =
      (match d with
        | .driving p => if now + 10 ≤ p.endAt then some (p.direction, (p.endAt - now) / 10) else none
        | _ => none) := by
  cases d with
  | driving p =>
    simp only [Driver.handedBack, Config.ms]
    by_cases left : now + 10 ≤ p.endAt
    · rw [if_pos left, if_pos (by omega)]
    · rw [if_neg left, if_neg (by omega)]
  | neutral => rfl
  | dead blocked timer waiting => rfl

end

/-- Settles O19: the record, the frame of `setTravel`, and the freeze, the nested stop and the row's mark by their conditions. -/
theorem stopTimerStopsAndFreezes : Obligations.StopTimerStopsAndFreezes := by
  unfold Obligations.StopTimerStopsAndFreezes
  refine ⟨?stops, ?freezes, ?nests, ?marks⟩
  case stops =>
    intro s d running timer reached
    refine State.takeExpiry_reaches running timer reached _ fun t same => ?_
    have travel : t.travel = s.travel.enter .stopped := same.travel.trans (s.setTravel_travel _ false)
    have frame := s.setTravel_frame (s.travel.enter .stopped) false
    refine ⟨travel, ?_, ?_, ?_, ?_, ?_, fun unfitted unscanned => ?_⟩
    · exact same.ring.trans (State.setTravel_ring_of_still rfl)
    · rw [same.heat, State.stopExpired, frame]
    · rw [same.load, State.stopExpired, frame]
    · rw [same.feed, State.stopExpired, frame]
    · rw [same.settings, State.stopExpired, frame]
    · rw [State.stopExpired, State.setTravel_of_inert s _ false unfitted unscanned] at same
      rw [travel]
      exact same
  case freezes =>
    intro s d running timer reached paving fitted auto free
    refine State.takeExpiry_reaches running timer reached _ fun t same => ?_
    have level : t.level = (State.freeze { s with travel := s.travel.enter .stopped }).level := by
      rw [same.level, State.stopExpired_level fitted paving]
      exact congrArg State.level (State.leavePaving_of_free (s := { s with travel := s.travel.enter .stopped }) auto free)
    rw [level]
    refine ⟨rfl, Levelling.cut_energised s.level s.now, rfl, ?_⟩
    simp only [State.freeze, Levelling.sensorOf, Levelling.referenceOf, beq_iff_eq]
    exact congrArg (fun move => some (⟨_, _, _, _, move, 0⟩ : ResumeRecord)) (Driver.handedBack_kept s.level.driver s.now)
  case nests =>
    intro s d running timer reached paving fitted auto settling
    refine State.takeExpiry_reaches running timer reached _ fun t same => ?_
    have level : t.level = (State.nestStop { s with travel := s.travel.enter .stopped }).level := by
      rw [same.level, State.stopExpired_level fitted paving]
      exact congrArg State.level (State.leavePaving_of_settling (s := { s with travel := s.travel.enter .stopped }) auto settling)
    rw [level]
    refine ⟨Levelling.cut_energised s.level s.now, ?_⟩
    simp only [State.nestStop, saturate_eq_min]
    rfl
  case marks =>
    intro s d r running timer reached paving scanner found
    refine State.takeExpiry_reaches running timer reached _ fun t same => ?_
    have stopped := State.setTravel_rows_of_stop (t := s.travel.enter .stopped) scanner rfl (by rw [paving]; nofun) nofun
    rw [same.rows, State.stopExpired, stopped, found]
    rfl

end Sys2Proof.Machine
end

section
/-! PROOFS. How a follower chooses its travel source and takes its source's content (R30 to R32). -/

namespace Sys2Proof.Machine

/-! ## The source record -/

section
variable {s : State}

/-- The travel record in which the chosen source stands (R30). -/
def Travel.sourced (t : Travel) (n : Fin 8) : Travel := if t.source = .station n then t else t.changeSource n

theorem Travel.sourced_source (t : Travel) (n : Fin 8) : (t.sourced n).source = .station n := by
  unfold Travel.sourced
  split
  next same => exact same
  next => rfl

theorem Travel.sourced_previous (t : Travel) (n : Fin 8) :
    (t.sourced n).previous = if t.source = .station n then t.previous else some n := by
  unfold Travel.sourced
  split
  · rfl
  · rfl

theorem Travel.sourced_sourceChanges (t : Travel) (n : Fin 8) :
    (t.sourced n).sourceChanges =
      if t.source = .station n ∨ t.previous = none ∨ t.previous = some n then t.sourceChanges
      else min 255 (t.sourceChanges + 1) := by
  unfold Travel.sourced
  by_cases same : t.source = .station n
  · rw [if_pos same, if_pos (.inl same)]
  · rw [if_neg same, Travel.changeSource]
    cases previous : t.previous with
    | none => simp
    | some m => by_cases again : m = n <;> simp [same, again]

/-- A choice of source changes the source record alone. -/
theorem Travel.sourced_keeps (t : Travel) (n : Fin 8) :
    t.sourced n =
      { t with source := (t.sourced n).source, previous := (t.sourced n).previous, sourceChanges := (t.sourced n).sourceChanges } := by
  unfold Travel.sourced
  split
  · rfl
  · rfl

/-! ## The content taken -/

/-- Content of the same epoch is followed, and content of another is a rebase (R31). -/
def Travel.taken (t : Travel) (c : TravelContent) (now : Nat) : Travel :=
  if c.epoch == t.epoch then t.follow c now else t.followRebase c

theorem State.takeContent_eq {t : Travel} (c : TravelContent) (epoch : t.epoch = s.travel.epoch) :
    s.takeContent t c = s.setTravel (t.taken c s.now) (c.epoch != s.travel.epoch) := by
  unfold State.takeContent Travel.taken
  rw [epoch]
  cases same : c.epoch == s.travel.epoch <;> simp [bne, same]

theorem Travel.taken_keeps (t : Travel) (c : TravelContent) (now : Nat) :
    (t.taken c now).chainage = c.chainage ∧ (t.taken c now).epoch = c.epoch ∧ (t.taken c now).remainder = t.remainder ∧
      (t.taken c now).speed = (if t.page.isSome then c.speed else 0) ∧ (t.taken c now).source = t.source ∧
      (t.taken c now).previous = t.previous ∧ (t.taken c now).sourceChanges = t.sourceChanges := by
  unfold Travel.taken
  split
  next same =>
    obtain ⟨chainage, epoch, rest⟩ := Travel.follow_keeps t c now
    exact ⟨chainage, epoch.trans (beq_iff_eq.1 same).symm, rest⟩
  next => exact ⟨rfl, rfl, rfl, rfl, rfl, rfl, rfl⟩

theorem Travel.taken_of_same {t : Travel} {c : TravelContent} (now : Nat) (same : c.epoch = t.epoch) :
    t.taken c now = t.follow c now := if_pos (beq_iff_eq.2 same)

theorem Travel.taken_of_rebase {t : Travel} {c : TravelContent} (now : Nat) (other : c.epoch ≠ t.epoch) :
    t.taken c now = t.followRebase c := if_neg (by simpa using other)

/-- Followed content out of LOST is a change of chainage by R28's table. -/
theorem Travel.follow_of_found {t : Travel} {page : TravelPage} {c : TravelContent} (calibrated : t.page = some page)
    (found : t.state ≠ .lost) (now : Nat) :
    ((t.follow c now).state, (t.follow c now).mark, (t.follow c now).stopTimer) =
      if c.chainage = t.chainage then (t.state, t.mark, t.stopTimer)
      else t.ruled c.chainage (now + 10000 * page.stopTime) (decide (t.chainage < c.chainage)) := by
  have moved : t.follow c now = ({ t with speed := if t.page.isSome then c.speed else 0 } : Travel).moveTo c.chainage now :=
    if_neg (by simpa using found)
  rw [moved]
  generalize (if t.page.isSome then c.speed else 0) = speed
  by_cases still : c.chainage = t.chainage
  · rw [Travel.moveTo, if_pos still, if_pos still]
  · rw [if_neg still, Travel.moveTo_eq_ruled (t := { t with speed := speed }) calibrated still now]
    rfl

/-- Followed content in LOST gives the state by the distance from the LOST mark (R32). -/
theorem Travel.follow_of_lost {t : Travel} {page : TravelPage} {c : TravelContent} (calibrated : t.page = some page)
    (lost : t.state = .lost) (now : Nat) :
    ((t.follow c now).state, (t.follow c now).mark, (t.follow c now).stopTimer) =
      if t.mark + 5 ≤ c.chainage then (.paving, c.chainage, some (now + 10000 * page.stopTime))
      else if c.chainage + 5 ≤ t.mark then (.reversing, c.chainage, none)
      else (.stopped, t.mark, none) := by
  have left : t.follow c now =
      ({ t with speed := if t.page.isSome then c.speed else 0, chainage := c.chainage } : Travel).leaveLost t.mark now :=
    if_pos (by simpa using lost)
  rw [left]
  unfold Travel.leaveLost Travel.enterPaving Travel.enter Config.travelMargin
  rw [Travel.stopStarted_eq (t := { t with speed := if t.page.isSome then c.speed else 0, chainage := c.chainage })
    calibrated now]
  dsimp only
  split_ifs <;> rfl

/-! ## The choice -/

/-- A chosen source whose content has not just come is kept as it is. -/
theorem State.reviewSource_of_kept {n : Fin 8} {c : TravelContent} {a : Option (Fin 8)} (follower : s.straps.encoder = false)
    (chosen : s.sourceChoice = some (n, c)) (source : s.travel.source = .station n) (silent : a ≠ some n) :
    s.reviewSource a = s := by
  rw [State.reviewSource, if_neg (by simp [follower]), chosen]
  dsimp only
  rw [if_pos source, if_neg silent]

/-- A chosen source that is new, or whose content has just come, is followed. -/
theorem State.reviewSource_of_taken {n : Fin 8} {c : TravelContent} {a : Option (Fin 8)} (follower : s.straps.encoder = false)
    (chosen : s.sourceChoice = some (n, c)) (news : s.travel.source = .station n → a = some n) :
    s.reviewSource a = s.takeContent (s.travel.sourced n) c := by
  rw [State.reviewSource, if_neg (by simp [follower]), chosen]
  dsimp only
  unfold Travel.sourced
  split
  next same => rw [if_pos (news same)]
  next => rfl

theorem State.reviewSource_of_none {a : Option (Fin 8)} (follower : s.straps.encoder = false) (alone : s.sourceChoice = none) :
    s.reviewSource a = if s.travel.source = .none then s else s.setTravel s.travel.loseSource false := by
  rw [State.reviewSource, if_neg (by simp [follower]), alone]

theorem Travel.loseSource_source (t : Travel) : t.loseSource.source = .none := by
  unfold Travel.loseSource
  dsimp only
  split
  · rfl
  · rfl

theorem State.takeContent_travel {t : Travel} (c : TravelContent) (epoch : t.epoch = s.travel.epoch) :
    (s.takeContent t c).travel = t.taken c s.now := by
  rw [State.takeContent_eq c epoch, State.setTravel_travel]

theorem Travel.sourced_epoch (t : Travel) (n : Fin 8) : (t.sourced n).epoch = t.epoch := by
  rw [Travel.sourced_keeps]

/-- Whatever the occasion, a follower's source is then the choice (R30). -/
theorem State.reviewSource_source {a : Option (Fin 8)} (follower : s.straps.encoder = false) :
    (s.reviewSource a).travel.source = match s.sourceChoice with
      | some (n, _) => .station n
      | none => .none := by
  cases chosen : s.sourceChoice with
  | none =>
    rw [State.reviewSource_of_none follower chosen]
    split
    next same => exact same
    next => rw [State.setTravel_travel]; exact s.travel.loseSource_source
  | some choice =>
    obtain ⟨n, c⟩ := choice
    by_cases kept : s.travel.source = .station n ∧ a ≠ some n
    · rw [State.reviewSource_of_kept follower chosen kept.1 kept.2]
      exact kept.1
    · rw [State.reviewSource_of_taken follower chosen fun same => by_contra fun silent => kept ⟨same, silent⟩,
        State.takeContent_travel c (Travel.sourced_epoch _ n)]
      obtain ⟨-, -, -, -, source, -⟩ := Travel.taken_keeps (s.travel.sourced n) c s.now
      exact source.trans (Travel.sourced_source _ n)

theorem State.candidate_congr {t : State} (peers : t.line.peers = s.line.peers) (k : Fin 8) : t.candidate k = s.candidate k := by
  unfold State.candidate
  rw [peers]

theorem State.sourceChoice_congr {t : State} (peers : t.line.peers = s.line.peers) : t.sourceChoice = s.sourceChoice := by
  unfold State.sourceChoice
  rw [show t.candidate = s.candidate from funext (State.candidate_congr peers)]

/-- The source choice is a station exactly when that is the lowest candidate. -/
theorem State.sourceChoice_station_iff (s : State) (m : Fin 8) :
    (match s.sourceChoice with
      | some (n, _) => Source.station n
      | none => .none) = .station m ↔ (s.candidate m).isSome = true ∧ ∀ k < m, s.candidate k = none := by
  constructor
  · intro same
    cases chosen : s.sourceChoice with
    | none => rw [chosen] at same; cases same
    | some choice =>
      obtain ⟨n, c⟩ := choice
      rw [chosen] at same
      cases same
      obtain ⟨found, lower⟩ := State.sourceChoice_some chosen
      exact ⟨by rw [found]; rfl, lower⟩
  · rintro ⟨found, lower⟩
    obtain ⟨c, found⟩ := Option.isSome_iff_exists.1 found
    rw [State.sourceChoice_eq found lower]

theorem State.sourceChoice_none_iff (s : State) :
    (match s.sourceChoice with
      | some (n, _) => Source.station n
      | none => .none) = .none ↔ ∀ k, s.candidate k = none := by
  cases chosen : s.sourceChoice with
  | none => exact ⟨fun _ => State.sourceChoice_none chosen, fun _ => rfl⟩
  | some choice =>
    obtain ⟨n, c⟩ := choice
    obtain ⟨found, -⟩ := State.sourceChoice_some chosen
    exact ⟨nofun, fun none_ => nomatch found.symm.trans (none_ n)⟩

theorem State.reviewSource_frame (s : State) (a : Option (Fin 8)) : State.TravelFrame s (s.reviewSource a) := by
  have content : ∀ (t : Travel) (c : TravelContent), State.TravelFrame s (s.takeContent t c) := fun t c => by
    unfold State.takeContent
    split
    · exact s.setTravel_frame _ _
    · exact s.setTravel_frame _ _
  unfold State.reviewSource
  split
  · exact .refl s
  · split
    · split
      · split
        · exact content _ _
        · exact .refl s
      · exact content _ _
    · split
      · exact .refl s
      · exact s.setTravel_frame _ _

end

/-! ## Arrivals and stale slots at a follower -/

section
variable {s : State} {n : Fin 8}

/-- The station with a peer's TRAVEL slot as it is then. -/
def State.withTravelSlot (s : State) (n : Fin 8) (slot : PeerSlot TravelContent) : State :=
  s.setPeer n { s.line.peers.get n with travel := slot }

theorem State.withTravelSlot_travel (slot : PeerSlot TravelContent) :
    ((s.withTravelSlot n slot).line.peers.get n).travel = slot := by
  unfold State.withTravelSlot State.setPeer
  dsimp only
  rw [octet_get_set, if_pos rfl]

theorem State.withTravelSlot_other (slot : PeerSlot TravelContent) {k : Fin 8} (other : k ≠ n) :
    (s.withTravelSlot n slot).candidate k = s.candidate k := by
  unfold State.candidate State.withTravelSlot State.setPeer
  dsimp only
  rw [octet_get_set, if_neg other]

theorem State.candidate_of_stale {c : TravelContent} (slot : (s.line.peers.get n).travel = .stale c) : s.candidate n = none := by
  rw [State.candidate, slot]
  rfl

theorem State.candidate_of_fresh {c : TravelContent} {since : Nat} (slot : (s.line.peers.get n).travel = .fresh c since)
    (counts : c.counts = true) : s.candidate n = some c := by
  rw [State.candidate, slot]
  exact if_pos counts

theorem State.peerAged_travel (due : (s.line.peers.get n).isDue .travel s.now = true) :
    ∃ c, s.peerAged n .travel = (s.withTravelSlot n (.stale c)).reviewSource none := by
  unfold State.peerAged
  rw [if_pos due]
  cases slot : (s.line.peers.get n).travel with
  | empty => rw [PeerEntry.isDue, slot] at due; cases due
  | stale c => rw [PeerEntry.isDue, slot] at due; cases due
  | fresh c since =>
    refine ⟨c, ?_⟩
    rw [PeerEntry.isDue, slot] at due
    have aged : (PeerSlot.fresh c since).aged Config.travelAge s.now = .stale c := if_pos due
    rw [PeerEntry.aged, slot, aged]
    rfl

theorem State.receive_travel {c : TravelContent} (other : n ≠ s.straps.station) (fits : c.Fits) :
    s.receive (bulletin n (.travel c)) = (s.withEcho.withTravelSlot n (.fresh c s.now)).reviewSource (some n) :=
  State.receive_of_content (readBulletin_bulletin n _) (bulletin_sender n _) other (Content.payload_length _)
    (peerContentsRoundTrip (.travel c) _ fits rfl)

end

/-- Settles O21: the review of the source as the choice along the candidates, and the content of the chosen one taken. -/
theorem followerTakesLowestCandidate : Obligations.FollowerTakesLowestCandidate := by
  unfold Obligations.FollowerTakesLowestCandidate
  refine ⟨?stale, ?arrives, ?higher⟩
  case stale =>
    intro s n running follower due
    refine State.take_reaches running _ fun t same => ?_
    obtain ⟨c, aged⟩ := State.peerAged_travel due
    rw [aged] at same
    have frame := (s.withTravelSlot n (.stale c)).reviewSource_frame none
    have peers : t.line.peers = (s.withTravelSlot n (.stale c)).line.peers := by rw [same.peers, frame]
    have source := State.reviewSource_source (s := s.withTravelSlot n (.stale c)) (a := none) follower
    rw [← same.travel, ← State.sourceChoice_congr peers] at source
    refine ⟨?_, fun m => ?_, ?_, fun alone before => ?_⟩
    · rw [State.candidate_congr peers]
      exact State.candidate_of_stale (State.withTravelSlot_travel _)
    · rw [source]; exact t.sourceChoice_station_iff m
    · rw [source]; exact t.sourceChoice_none_iff
    · have none_ : (s.withTravelSlot n (.stale c)).sourceChoice = none := by
        rw [← State.sourceChoice_congr peers]
        cases chosen : t.sourceChoice with
        | none => rfl
        | some choice => rw [alone, chosen] at source; cases source
      have lost : t.travel = s.travel.loseSource := by
        rw [same.travel, State.reviewSource_of_none (s := s.withTravelSlot n (.stale c)) follower none_,
          if_neg (show (s.withTravelSlot n (.stale c)).travel.source ≠ .none from before), State.setTravel_travel]
        rfl
      rw [lost]
      unfold Travel.loseSource
      dsimp only
      split
      next => exact ⟨rfl, rfl, rfl, fun _ => ⟨rfl, rfl, rfl⟩⟩
      next uncalibrated => exact ⟨rfl, rfl, rfl, fun calibrated => absurd calibrated uncalibrated⟩
  case arrives =>
    intro s n c running follower other fits counts lower
    refine State.take_reaches running _ fun t same => ?_
    rw [State.receive_travel other fits] at same
    have found : (s.withEcho.withTravelSlot n (.fresh c s.now)).candidate n = some c :=
      State.candidate_of_fresh (State.withTravelSlot_travel _) counts
    have below : ∀ k < n, (s.withEcho.withTravelSlot n (.fresh c s.now)).candidate k = none := fun k less =>
      (State.withTravelSlot_other _ (ne_of_lt less)).trans (lower k less)
    have frame := (s.withEcho.withTravelSlot n (.fresh c s.now)).reviewSource_frame (some n)
    have epoch := Travel.sourced_epoch s.travel n
    have reviewed : (s.withEcho.withTravelSlot n (.fresh c s.now)).reviewSource (some n) =
        (s.withEcho.withTravelSlot n (.fresh c s.now)).setTravel ((s.travel.sourced n).taken c s.now)
          (c.epoch != s.travel.epoch) := by
      rw [State.reviewSource_of_taken (s := s.withEcho.withTravelSlot n (.fresh c s.now)) follower
        (State.sourceChoice_eq found below) fun _ => rfl]
      exact State.takeContent_eq (s := s.withEcho.withTravelSlot n (.fresh c s.now)) c epoch
    have travel : t.travel = (s.travel.sourced n).taken c s.now := by rw [same.travel, reviewed, State.setTravel_travel]
    obtain ⟨chainage, newEpoch, remainder, speed, source, previous, changes⟩ :=
      Travel.taken_keeps (s.travel.sourced n) c s.now
    have kept := Travel.sourced_keeps s.travel n
    refine ⟨?_, ?_, ?_, ?_, ?_, ?_, ?_, ?_, ?_, ?otherEpoch, ?sameEpoch, ?found⟩
    · rw [same.peers, frame]
      exact State.withTravelSlot_travel (s := s.withEcho) _
    · rw [same.echoed, frame]; rfl
    · rw [travel, source, Travel.sourced_source]
    · rw [travel, previous, Travel.sourced_previous]
    · rw [travel, changes, Travel.sourced_sourceChanges]
    · rw [travel, chainage]
    · rw [travel, newEpoch]
    · rw [travel, remainder, kept]
    · rw [travel, speed, kept]
    case otherEpoch =>
      intro differs
      have rebase := Travel.taken_of_rebase (t := s.travel.sourced n) s.now (by rwa [epoch])
      refine ⟨by rw [travel, rebase]; rfl, by rw [travel, rebase]; rfl, by rw [travel, rebase]; rfl, fun scanner => ?_⟩
      obtain ⟨openRow, highWater, continuation, last, lastEpoch⟩ :=
        State.setTravel_rebased (s := s.withEcho.withTravelSlot n (.fresh c s.now))
          (t := (s.travel.sourced n).taken c s.now) scanner (by rw [rebase]; nofun)
      rw [same.rows, reviewed, bne_iff_ne.2 differs]
      exact ⟨openRow, highWater, continuation, last.trans chainage, lastEpoch.trans newEpoch⟩
    case sameEpoch =>
      intro page sameEpoch calibrated found
      have followed := Travel.follow_of_found (t := s.travel.sourced n) (c := c) (by rw [kept]; exact calibrated)
        (by rw [kept]; exact found) s.now
      rw [travel, Travel.taken_of_same _ (sameEpoch.trans epoch.symm), followed, kept]
      rfl
    case found =>
      intro page sameEpoch calibrated lost
      have followed := Travel.follow_of_lost (t := s.travel.sourced n) (c := c) (by rw [kept]; exact calibrated)
        (by rw [kept]; exact lost) s.now
      rw [travel, Travel.taken_of_same _ (sameEpoch.trans epoch.symm), followed, kept]
  case higher =>
    intro s n m c running follower other fits lower source found below
    refine State.take_reaches running _ fun t same => ?_
    obtain ⟨content, found⟩ := Option.isSome_iff_exists.1 found
    have chosen : (s.withEcho.withTravelSlot n (.fresh c s.now)).sourceChoice = some (m, content) := by
      refine State.sourceChoice_eq ?_ fun k less => ?_
      · exact (State.withTravelSlot_other _ (ne_of_lt lower)).trans found
      · exact (State.withTravelSlot_other _ (ne_of_lt (less.trans lower))).trans (below k less)
    rwa [State.receive_travel other fits, State.reviewSource_of_kept (s := s.withEcho.withTravelSlot n (.fresh c s.now)) follower chosen source
      (fun again => absurd (Option.some.inj again) (ne_of_gt lower))] at same

end Sys2Proof.Machine
end

section
/-! PROOFS. Zones sampled, tripped and cleared one after the other (R38, R53 to R57), and the slots of a running window (R44, R51). -/

namespace Sys2Proof.Machine

/-! ## An operation on each zone in turn -/

/-- The Row Builder is told of a trip when there is one (R56). -/
def State.noteIf (s : State) (tripped : Bool) : State := if tripped then s.noteTrip else s

/-- One zone's turn: its record changed by `g`, and the Row Builder told when `trips` says that it trips. -/
def State.zoneTurn (g : Fin 4 → Zone → Zone) (trips : Fin 4 → Zone → Bool) (s : State) (z : Fin 4) : State :=
  (s.setZone z (g z (s.zone z))).noteIf (trips z (s.zone z))

section
variable (s : State)

theorem State.noteTrip_noteTrip : s.noteTrip.noteTrip = s.noteTrip := by
  have twice : (OpenRow.setTripSeen ∘ OpenRow.setTripSeen) = OpenRow.setTripSeen := rfl
  simp only [State.noteTrip, Option.map_map, twice]

theorem State.noteIf_noteIf (a b : Bool) : (s.noteIf a).noteIf b = s.noteIf (a || b) := by
  cases a with
  | false => rfl
  | true =>
    cases b with
    | false => rfl
    | true => exact s.noteTrip_noteTrip

theorem State.noteIf_eq (b : Bool) :
    s.noteIf b = { s with rows := { s.rows with openRow := if b then s.rows.openRow.map (·.setTripSeen) else s.rows.openRow } } := by
  cases b <;> rfl

theorem State.setZone_noteIf (b : Bool) (z : Fin 4) (r : Zone) : (s.noteIf b).setZone z r = (s.setZone z r).noteIf b := by
  cases b <;> rfl

theorem State.zone_noteIf (b : Bool) (z : Fin 4) : (s.noteIf b).zone z = s.zone z := by
  cases b <;> rfl

theorem State.zoneTurn_noteIf (g : Fin 4 → Zone → Zone) (trips : Fin 4 → Zone → Bool) (b : Bool) (z : Fin 4) :
    (s.noteIf b).zoneTurn g trips z = (s.setZone z (g z (s.zone z))).noteIf (b || trips z (s.zone z)) := by
  rw [State.zoneTurn, State.zone_noteIf, State.setZone_noteIf, State.noteIf_noteIf]

/-- The turns of the four zones change each zone by itself, and tell the Row Builder once when one of them trips. -/
theorem State.forZones_zoneTurn (g : Fin 4 → Zone → Zone) (trips : Fin 4 → Zone → Bool) :
    s.forZones (State.zoneTurn g trips) = (s.mapZones g).noteIf (zones.any fun z => trips z (s.zone z)) := by
  have turns : s.forZones (State.zoneTurn g trips) =
      (s.mapZones g).noteIf (((trips 0 (s.zone 0) || trips 1 (s.zone 1)) || trips 2 (s.zone 2)) || trips 3 (s.zone 3)) := by
    unfold State.forZones zones
    simp only [List.foldl_cons, List.foldl_nil]
    rw [show s.zoneTurn g trips 0 = (s.setZone 0 (g 0 (s.zone 0))).noteIf (trips 0 (s.zone 0)) from rfl,
      State.zoneTurn_noteIf, State.zoneTurn_noteIf, State.zoneTurn_noteIf]
    rfl
  rw [turns]
  simp [zones, Bool.or_assoc]

variable {s}

theorem State.zoneTurn_identity (g : Fin 4 → Zone → Zone) (trips : Fin 4 → Zone → Bool) (z : Fin 4) :
    (s.zoneTurn g trips z).identity = s.identity ∧ (s.zoneTurn g trips z).pins = s.pins := by
  rw [State.zoneTurn, State.noteIf_eq]
  exact ⟨rfl, rfl⟩

/-- An operation that is such a turn in every state with the station's straps and pins. -/
theorem State.forZones_eq {f : State → Fin 4 → State} {g : Fin 4 → Zone → Zone} {trips : Fin 4 → Zone → Bool}
    (agrees : ∀ t z, t.identity = s.identity → t.pins = s.pins → f t z = t.zoneTurn g trips z) :
    s.forZones f = (s.mapZones g).noteIf (zones.any fun z => trips z (s.zone z)) := by
  rw [← State.forZones_zoneTurn]
  have turn : ∀ t z, t.identity = s.identity ∧ t.pins = s.pins → f t z = t.zoneTurn g trips z ∧
      (t.zoneTurn g trips z).identity = s.identity ∧ (t.zoneTurn g trips z).pins = s.pins := fun t z same => by
    obtain ⟨identity, pins⟩ := State.zoneTurn_identity (s := t) g trips z
    exact ⟨agrees t z same.1 same.2, identity.trans same.1, pins.trans same.2⟩
  unfold State.forZones
  generalize zones = l
  have chain : ∀ (l : List (Fin 4)) (t : State), t.identity = s.identity ∧ t.pins = s.pins →
      l.foldl f t = l.foldl (State.zoneTurn g trips) t := by
    intro l
    induction l with
    | nil => exact fun _ _ => rfl
    | cons z l ih =>
      intro t same
      obtain ⟨here, kept⟩ := turn t z same
      rw [List.foldl_cons, List.foldl_cons, here]
      exact ih _ kept
  exact chain l s ⟨rfl, rfl⟩

theorem State.mapZones_zone (g : Fin 4 → Zone → Zone) (z : Fin 4) : (s.mapZones g).heat.zones.get z = g z (s.heat.zones.get z) :=
  quad_get_ofFn _ z

theorem State.noteIf_heat (b : Bool) : (s.noteIf b).heat = s.heat := by
  cases b <;> rfl

end

/-! ## Judging a zone -/

/-- A zone record after R55 has been applied to it. -/
def Zone.judged (r : Zone) (fitted leak : Bool) : Zone :=
  if fitted && !r.state.isTripped then
    match r.standingCause leak with
    | some cause => r.trip cause
    | none => r
  else r

/-- R55 trips the zone. -/
def Zone.judgedTrips (r : Zone) (fitted leak : Bool) : Bool := fitted && !r.state.isTripped && (r.standingCause leak).isSome

section
variable {s : State} {r : Zone}

theorem quad_set_get {α : Type} (q : Quad α) (z : Fin 4) : q.set z (q.get z) = q := by
  fin_cases z <;> rfl

theorem State.setZone_self (s : State) (z : Fin 4) : s.setZone z (s.zone z) = s := by
  rw [State.setZone, State.zone, quad_set_get]

theorem State.judgeZone_eq (s : State) (z : Fin 4) :
    s.judgeZone z =
      (s.setZone z ((s.zone z).judged (s.straps.zoneFitted z) s.pins.leakage)).noteIf
        ((s.zone z).judgedTrips (s.straps.zoneFitted z) s.pins.leakage) := by
  unfold State.judgeZone Zone.judged Zone.judgedTrips
  cases judged : s.straps.zoneFitted z && !(s.zone z).state.isTripped with
  | false =>
    simp only [Bool.false_eq_true, if_false, Bool.false_and]
    exact (s.setZone_self z).symm
  | true =>
    simp only [if_true, Bool.true_and]
    cases (s.zone z).standingCause s.pins.leakage with
    | none => exact (s.setZone_self z).symm
    | some cause => rfl

/-- R55's table on a fitted zone. -/
theorem Zone.judged_of_fitted (r : Zone) (leak : Bool) :
    r.judged true leak =
      if r.state.isTripped then r
      else if leak then { r with state := .tripped .leakage, cut := true, out := false, openCount := 0 }
      else if r.sensorFault then { r with state := .tripped .sensor, cut := true, out := false, openCount := 0 }
      else if 220 ≤ r.temperature.getD 0 then { r with state := .tripped .overtemp, cut := true, out := false, openCount := 0 }
      else r := by
  unfold Zone.judged
  rw [Zone.standingCause_eq]
  cases r.state.isTripped with
  | true => rfl
  | false =>
    by_cases leaks : leak
    · simp [leaks, Zone.trip]
    · by_cases faulty : r.sensorFault
      · simp [leaks, faulty, Zone.trip]
      · by_cases hot : 220 ≤ r.temperature.getD 0 <;> simp [leaks, faulty, hot, Zone.trip]

/-- A zone that is judged trips exactly when its state changes. -/
theorem Zone.judged_state_iff (r : Zone) (fitted leak : Bool) :
    (r.judged fitted leak).state ≠ r.state ↔ r.judgedTrips fitted leak = true := by
  unfold Zone.judged Zone.judgedTrips
  cases untripped : fitted && !r.state.isTripped with
  | false => simp
  | true =>
    have free : r.state.isTripped = false := by
      rw [Bool.and_eq_true] at untripped
      simpa using untripped.2
    cases r.standingCause leak with
    | none => simp
    | some cause =>
      simp only [if_true, Bool.true_and, Option.isSome_some, iff_true]
      intro same
      rw [← same] at free
      cases free

end

/-! ## Plate samples -/

section
variable {s : State} {r : Zone}

theorem Zone.sample_state (r : Zone) (reading : Reading) : (r.sample reading).state = r.state := by
  unfold Zone.sample
  split <;> rfl

theorem plateReading_of_value {v : Int} (low : -40 ≤ v) (high : v ≤ 300) : plateReading (.value v) = some v := if_pos ⟨low, high⟩

theorem plateReading_of_other {reading : Reading} (outside : ∀ v, reading = .value v → v < -40 ∨ 300 < v) :
    plateReading reading = none := by
  cases reading with
  | openCircuit => rfl
  | value v =>
    have out := outside v rfl
    exact if_neg (by omega)

/-- A zone record after the plate sensor timer's expiry. -/
def Zone.sampled (r : Zone) (fitted leak : Bool) (reading : Reading) : Zone :=
  if fitted then (r.sample reading).judged true leak else r

/-- The sample trips the zone. -/
def Zone.sampledTrips (r : Zone) (fitted leak : Bool) (reading : Reading) : Bool :=
  fitted && (r.sample reading).judgedTrips true leak

theorem State.straps_congr {t : State} (identity : t.identity = s.identity) : t.straps = s.straps := by
  unfold State.straps
  rw [identity]

theorem State.setZone_setZone (s : State) (z : Fin 4) (a b : Zone) : (s.setZone z a).setZone z b = s.setZone z b := by
  fin_cases z <;> rfl

theorem State.zone_setZone (s : State) (z : Fin 4) (r : Zone) : (s.setZone z r).zone z = r := by
  fin_cases z <;> rfl

theorem State.zoneFitted_of (s : State) (z : Fin 4) (r : Zone) :
    (s.setZone z r).straps.zoneFitted z = s.straps.zoneFitted z := rfl

theorem State.sampleZone_turn (s : State) (samples : Quad Reading) (z : Fin 4) :
    (if s.straps.zoneFitted z then (s.setZone z ((s.zone z).sample (samples.get z))).judgeZone z else s) =
      s.zoneTurn (fun z r => r.sampled (s.straps.zoneFitted z) s.pins.leakage (samples.get z))
        (fun z r => r.sampledTrips (s.straps.zoneFitted z) s.pins.leakage (samples.get z)) z := by
  unfold State.zoneTurn Zone.sampled Zone.sampledTrips
  dsimp only
  cases fitted : s.straps.zoneFitted z with
  | false =>
    simp only [Bool.false_eq_true, if_false, Bool.false_and]
    exact (s.setZone_self z).symm
  | true =>
    simp only [if_true, Bool.true_and]
    rw [State.judgeZone_eq, State.zone_setZone, State.setZone_setZone, State.zoneFitted_of, fitted]
    rfl

/-- The station with the plate sensor timer running its next period. -/
def State.platesTimed (s : State) : State :=
  { s with heat := { s.heat with sensorTimer := s.heat.sensorTimer.map (· + Config.heatSensorPeriod) } }

/-- The plate sensor timer's expiry as the four zones' samples (R38, R55). -/
theorem State.samplePlates_eq (s : State) (samples : Quad Reading) :
    s.samplePlates samples =
      (s.platesTimed.mapZones fun z r => r.sampled (s.straps.zoneFitted z) s.pins.leakage (samples.get z)).noteIf
        (zones.any fun z => (s.zone z).sampledTrips (s.straps.zoneFitted z) s.pins.leakage (samples.get z)) := by
  refine State.forZones_eq (s := s.platesTimed)
    (f := fun t z => if t.straps.zoneFitted z then (t.setZone z ((t.zone z).sample (samples.get z))).judgeZone z else t)
    (g := fun z r => r.sampled (s.straps.zoneFitted z) s.pins.leakage (samples.get z))
    (trips := fun z r => r.sampledTrips (s.straps.zoneFitted z) s.pins.leakage (samples.get z)) fun t z identity pins => ?_
  have straps : s.straps = t.straps := (State.straps_congr identity).symm
  rw [State.sampleZone_turn t samples z, straps, show s.pins = t.pins from pins.symm]

theorem Zone.sampled_state_iff (r : Zone) (fitted leak : Bool) (reading : Reading) :
    (r.sampled fitted leak reading).state ≠ r.state ↔ r.sampledTrips fitted leak reading = true := by
  unfold Zone.sampled Zone.sampledTrips
  cases fitted with
  | false => simp
  | true => simpa only [if_true, Bool.true_and, Zone.sample_state] using (r.sample reading).judged_state_iff true leak

theorem mem_zones (z : Fin 4) : z ∈ zones := by
  revert z
  decide

/-- Some zone trips exactly when some zone's state changes. -/
theorem any_zone_iff {trips : Fin 4 → Bool} : (zones.any trips) = true ↔ ∃ z, trips z = true := by
  rw [List.any_eq_true]
  constructor
  · rintro ⟨z, -, trip⟩
    exact ⟨z, trip⟩
  · rintro ⟨z, trip⟩
    exact ⟨z, mem_zones z, trip⟩

end

/-- Settles O22: each zone's sample and R55's table on it, by the four turns. -/
theorem plateSamplesTripZones : Obligations.PlateSamplesTripZones := by
  unfold Obligations.PlateSamplesTripZones
  intro s samples d running timer reached
  refine State.takeExpiry_reaches running timer reached _ fun t same => ?_
  rw [State.samplePlates_eq, State.platesTimed, timer] at same
  have zone : ∀ z, t.heat.zones.get z =
      (s.heat.zones.get z).sampled (s.straps.zoneFitted z) s.pins.leakage (samples.get z) := fun z => by
    rw [same.heat, State.noteIf_heat]
    exact State.mapZones_zone _ z
  have rows : t.rows.openRow =
      if zones.any fun z => (s.zone z).sampledTrips (s.straps.zoneFitted z) s.pins.leakage (samples.get z) then
        s.rows.openRow.map (·.setTripSeen) else s.rows.openRow := by
    rw [same.rows, State.noteIf_eq]
    rfl
  have changed : (zones.any fun z => (s.zone z).sampledTrips (s.straps.zoneFitted z) s.pins.leakage (samples.get z)) = true ↔
      ∃ z, (t.heat.zones.get z).state ≠ (s.heat.zones.get z).state := by
    rw [any_zone_iff]
    exact exists_congr fun z => by rw [zone]; exact (Zone.sampled_state_iff _ _ _ _).symm
  refine ⟨?frame, fun kept => ?_, fun trips => ?_, fun z => ⟨fun unfitted => ?_, fun fitted sampled reading => ?_⟩⟩
  case frame =>
    have heat := same.heat
    rw [State.noteIf_heat] at heat
    rw [heat, rows]
    rw [State.noteIf_eq] at same
    exact same
  · rw [rows, if_neg]
    rw [changed]
    rintro ⟨z, differs⟩
    exact differs (kept z)
  · rw [rows, if_pos (changed.2 trips)]
    rfl
  · rw [zone, unfitted]
    rfl
  · have taken : (s.heat.zones.get z).sample (samples.get z) = sampled := by
      rcases reading with ⟨v, value, low, high, rfl⟩ | ⟨outside, rfl⟩
      · rw [Zone.sample, value, plateReading_of_value low high]
      · rw [Zone.sample, plateReading_of_other outside]
    rw [zone, Zone.sampled, fitted, if_pos rfl, taken, Zone.judged_of_fitted]

/-! ## Leakage and overcurrent -/

section
variable {s : State}

/-- The earth-leakage input going active judges each zone. -/
theorem State.leakageChanged_on (s : State) :
    s.leakageChanged true =
      (State.mapZones { s with pins := { s.pins with leakage := true } }
          fun z r => r.judged (s.straps.zoneFitted z) true).noteIf
        (zones.any fun z => (s.zone z).judgedTrips (s.straps.zoneFitted z) true) := by
  refine State.forZones_eq (s := { s with pins := { s.pins with leakage := true } }) (f := fun t z => t.judgeZone z)
    (g := fun z r => r.judged (s.straps.zoneFitted z) true)
    (trips := fun z r => r.judgedTrips (s.straps.zoneFitted z) true) fun t z identity pins => ?_
  have straps : t.straps = s.straps := State.straps_congr identity
  rw [State.judgeZone_eq, straps, pins]
  rfl

theorem Zone.judged_of_leak (r : Zone) (fitted : Bool) :
    r.judged fitted true =
      if fitted = true ∧ r.state.isTripped = false then
        { r with state := .tripped .leakage, cut := true, out := false, openCount := 0 }
      else r := by
  cases fitted with
  | false => rfl
  | true => cases tripped : r.state.isTripped <;> simp [Zone.judged_of_fitted, tripped]

theorem overRated_iff (current rating volts : Nat) :
    overRated current rating volts = true ↔ 130 * (10 * rating) * 1000 < 100 * current * volts := by
  rw [overRated, decide_eq_true_iff, Nat.mul_assoc 100]
  omega

theorem Heat.volts_of_page {h : Heat} {page : HeatPage} (applied : h.page = some page) : h.volts = page.nominalVoltage := by
  rw [Heat.volts, applied]
  rfl

/-- The current that trips a zone OVERCURRENT, by the model's test of it (R53). -/
theorem State.watchCurrent_eq {page : HeatPage} (applied : s.heat.page = some page) (z : Fin 4) (current : Nat) :
    s.watchCurrent z current =
      if (s.heat.zones.get z).out = true ∧ (s.heat.zones.get z).state = .regulating ∧ (s.heat.zones.get z).cut = false ∧
          130 * (10 * s.straps.rating) * 1000 < 100 * current * page.nominalVoltage then
        s.tripZone z .overcurrent
      else s := by
  rw [State.watchCurrent, Heat.volts_of_page applied]
  refine if_congr ?_ rfl rfl
  simp only [Bool.and_eq_true, overRated_iff, beq_iff_eq, Bool.not_eq_true', State.zone, and_assoc]

end

/-- Settles O23: the input as a judgement of every zone, and the overcurrent's test. -/
theorem leakageAndOvercurrentTrip : Obligations.LeakageAndOvercurrentTrip := by
  unfold Obligations.LeakageAndOvercurrentTrip
  refine ⟨?on, ?off, ?current⟩
  case on =>
    intro s running
    have taken : exec (.leakageInputActive true) s = .next (s.take fun t => t.leakageChanged true) :=
      congrArg Host.Outcome.next (if_pos (by simp [running]))
    rw [taken]
    refine State.take_reaches running _ fun t same => ?_
    rw [State.leakageChanged_on] at same
    refine ⟨?_, fun z => ?_⟩
    · have heat := same.heat
      have rows := same.rows
      rw [State.noteIf_heat] at heat
      rw [State.noteIf_eq] at same rows
      rw [heat, rows]
      exact same
    · rw [same.heat, State.noteIf_heat, ← Zone.judged_of_leak]
      exact State.mapZones_zone _ z
  case off =>
    intro s running
    have taken : exec (.leakageInputActive false) s = .next (s.take fun t => t.leakageChanged false) :=
      congrArg Host.Outcome.next (if_pos (by simp [running]))
    rw [taken]
    exact State.take_reaches running _ fun t same => same
  case current =>
    intro s page z current running applied
    refine ⟨fun trips => ?_, fun stays => ?_⟩
    · refine State.take_reaches running _ fun t same => ?_
      rw [State.watchCurrent_eq applied, if_pos trips] at same
      exact same
    · refine State.take_reaches running _ fun t same => ?_
      rwa [State.watchCurrent_eq applied, if_neg stays] at same

/-! ## A slot begun -/

section
variable {s : State}

theorem underTenth_iff (current rating volts : Nat) : underTenth current rating volts = false ↔ 1000 * rating ≤ current * volts := by
  rw [underTenth, decide_eq_false_iff_not, Nat.not_lt]

/-- A zone record with the slot's current sensed (R54). -/
def Zone.sensed (r : Zone) (peak rating volts : Nat) : Zone :=
  if r.out && !underTenth peak rating volts then { r with drew := true } else r

theorem Zone.sensed_eq (r : Zone) (peak rating volts : Nat) :
    r.sensed peak rating volts = { r with drew := (r.sensed peak rating volts).drew } := by
  unfold Zone.sensed
  split <;> rfl

theorem Zone.sensed_drew_iff (r : Zone) (peak rating volts : Nat) :
    (r.sensed peak rating volts).drew = true ↔ r.drew = true ∨ (r.out = true ∧ 1000 * rating ≤ peak * volts) := by
  rw [← underTenth_iff]
  unfold Zone.sensed
  cases r.out <;> cases underTenth peak rating volts <;> simp

/-- A crossing within a window begins the next slot (R44, R51). -/
theorem State.takeCrossing_within {rms : Nat} {peak : Quad Nat} (runs : s.heat.supply = .running) (inner : s.heat.slot + 1 < 50) :
    s.takeCrossing rms peak =
      (State.setOutputs
        { s.senseSlot peak with heat := { (s.senseSlot peak).heat with slot := s.heat.slot + 1 } }).timeCrossing := by
  unfold State.takeCrossing State.crossRunning
  rw [if_pos ((s.windowRuns_iff).2 runs)]
  dsimp only
  rw [if_pos (show s.heat.slot + 1 < Config.windowSlots from inner)]

theorem Straps.offset_lt (p : Straps) (z : Fin 4) : p.offset z < 50 := Nat.mod_lt _ (by decide)

theorem Zone.setOutput_out_iff (r : Zone) {slot : Nat} {p : Straps} {z : Fin 4} (inside : slot < 50) :
    (r.setOutput slot (p.offset z)).out = true ↔
      r.state = .regulating ∧ r.cut = false ∧
        ∃ i, i < r.duty ∧ i < 50 ∧ slot = ((6 * p.station.val + 50 * z.val / p.fitted) % 50 + i) % 50 := by
  have slots := isOnSlot_iff r.duty inside (p.offset_lt z)
  simp only [Zone.setOutput, Bool.and_eq_true, beq_iff_eq, Bool.not_eq_true', slots, and_assoc]
  rfl

end

/-- Settles O24: the slot's currents sensed, the slot advanced and the outputs set for it. -/
theorem crossingBeginsSlot : Obligations.CrossingBeginsSlot := by
  unfold Obligations.CrossingBeginsSlot
  intro s rms peak running runs inner
  refine State.take_reaches running _ fun t same => ?_
  rw [State.takeCrossing_within runs inner] at same
  have zone : ∀ z, t.heat.zones.get z =
      if s.straps.zoneFitted z then
        ((s.heat.zones.get z).sensed (peak.get z) s.straps.rating s.heat.volts).setOutput (s.heat.slot + 1) (s.straps.offset z)
      else (s.heat.zones.get z).sensed (peak.get z) s.straps.rating s.heat.volts := fun z => by
    rw [same.heat]
    refine (State.mapZones_zone _ z).trans ?_
    dsimp only
    rw [show ({ s.senseSlot peak with heat := { (s.senseSlot peak).heat with slot := s.heat.slot + 1 } } : State).heat.zones.get z =
      (s.heat.zones.get z).sensed (peak.get z) s.straps.rating s.heat.volts from State.mapZones_zone _ z]
    rfl
  refine ⟨?_, fun z => ?_⟩
  · rw [same.heat]
    exact same
  · have kept := (s.heat.zones.get z).sensed_eq (peak.get z) s.straps.rating s.heat.volts
    have drew := (s.heat.zones.get z).sensed_drew_iff (peak.get z) s.straps.rating s.heat.volts
    cases fitted : s.straps.zoneFitted z with
    | false =>
      rw [zone z, fitted, if_neg Bool.false_ne_true]
      exact ⟨by rw [kept], drew, fun _ => by rw [kept], nofun⟩
    | true =>
      rw [zone z, fitted, if_pos rfl]
      refine ⟨by rw [kept]; rfl, drew, nofun, fun _ => ?_⟩
      rw [Zone.setOutput_out_iff _ inner, kept]

end Sys2Proof.Machine
end

section
/-! PROOFS. The heating mode and the clearing of trips (R42, R57), and the shed handshake's reports (R76). -/

namespace Sys2Proof.Machine

/-! ## The heating mode -/

section
variable {s : State}

theorem State.takeModeHeating_of_unfitted (sender : Fin 16) (on : Bool) (unfitted : s.straps.fitted = 0) :
    s.takeModeHeating sender on = s.judged .mode (some .heating) sender (some .notFitted) := if_pos unfitted

theorem State.takeModeHeating_of_fitted (sender : Fin 16) (on : Bool) (fitted : s.straps.fitted ≠ 0) :
    s.takeModeHeating sender on = (s.setHeatingMode on).judged .mode (some .heating) sender none := if_neg fitted

theorem State.setHeatingMode_of_same {on : Bool} (same : s.heat.mode = on) : s.setHeatingMode on = s := by
  rw [State.setHeatingMode, if_pos (by simp [same])]

theorem State.setHeatingMode_off (on : s.heat.mode = true) :
    s.setHeatingMode false = State.mapZones { s with heat := { s.heat with mode := false } } fun _ r => r.switchOff := by
  rw [State.setHeatingMode, if_neg (by simp [on])]
  rfl

theorem State.setHeatingMode_on (off : s.heat.mode = false) :
    s.setHeatingMode true = State.clearTrips { s with heat := { s.heat with mode := true } } := by
  rw [State.setHeatingMode, if_neg (by simp [off])]
  rfl

theorem Zone.switchOff_eq (r : Zone) :
    r.switchOff = if r.state = .regulating then { r with state := .idle, cut := true, out := false } else r := by
  simp only [Zone.switchOff, beq_iff_eq]

end

/-- Settles O29: the refusal, the switch to OFF and the mode in force. -/
theorem modeHeatingJudged : Obligations.ModeHeatingJudged := by
  unfold Obligations.ModeHeatingJudged
  refine ⟨?unfitted, ?off, ?inForce⟩
  case unfitted =>
    intro s sender on running unfitted
    refine State.take_reaches running _ fun t same => ?_
    rwa [State.takeModeHeating_of_unfitted sender on unfitted] at same
  case off =>
    intro s sender running fitted on
    refine State.take_reaches running _ fun t same => ?_
    rw [State.takeModeHeating_of_fitted sender false fitted, State.setHeatingMode_off on] at same
    refine ⟨?_, fun z => ?_⟩
    · rw [same.heat]
      exact same
    · rw [same.heat, ← Zone.switchOff_eq]
      exact State.mapZones_zone _ z
  case inForce =>
    intro s sender on running fitted inForce
    refine State.take_reaches running _ fun t same => ?_
    rwa [State.takeModeHeating_of_fitted sender on fitted, State.setHeatingMode_of_same inForce] at same

/-! ## Trips cleared -/

/-- A zone record with its trip taken away (R57). -/
def Zone.untripped (r : Zone) : Zone := { r with state := .idle, openCount := 0 }

/-- A zone record after its trip has been judged for clearing. -/
def Zone.cleared (r : Zone) (fitted leak : Bool) : Zone :=
  match r.state with
  | .tripped cause => if fitted && r.mayClear cause leak then r.untripped.judged true leak else r
  | _ => r

/-- Clearing trips the zone again. -/
def Zone.clearedTrips (r : Zone) (fitted leak : Bool) : Bool :=
  match r.state with
  | .tripped cause => fitted && r.mayClear cause leak && r.untripped.judgedTrips true leak
  | _ => false

section
variable {s : State} {r : Zone}

theorem Zone.cleared_of_free (fitted leak : Bool) (free : r.state.isTripped = false) :
    r.cleared fitted leak = r ∧ r.clearedTrips fitted leak = false := by
  unfold Zone.cleared Zone.clearedTrips
  split
  next cause tripped => rw [tripped] at free; cases free
  next => exact ⟨rfl, rfl⟩

theorem Zone.cleared_of_tripped {cause : TripCause} (fitted leak : Bool) (tripped : r.state = .tripped cause) :
    r.cleared fitted leak = (if fitted && r.mayClear cause leak then r.untripped.judged true leak else r) ∧
      r.clearedTrips fitted leak = (fitted && r.mayClear cause leak && r.untripped.judgedTrips true leak) := by
  unfold Zone.cleared Zone.clearedTrips
  rw [tripped]
  exact ⟨rfl, rfl⟩

theorem State.clearZone_of_free {z : Fin 4} (free : (s.zone z).state.isTripped = false) : s.clearZone z = s := by
  unfold State.clearZone
  split
  next cause tripped => rw [tripped] at free; cases free
  next => rfl

theorem State.clearZone_of_tripped {z : Fin 4} {cause : TripCause} (tripped : (s.zone z).state = .tripped cause) :
    s.clearZone z =
      if s.straps.zoneFitted z && (s.zone z).mayClear cause s.pins.leakage then
        (s.setZone z (s.zone z).untripped).judgeZone z
      else s := by
  unfold State.clearZone
  rw [tripped]
  rfl

theorem State.clearZone_turn (s : State) (z : Fin 4) :
    s.clearZone z =
      s.zoneTurn (fun z r => r.cleared (s.straps.zoneFitted z) s.pins.leakage)
        (fun z r => r.clearedTrips (s.straps.zoneFitted z) s.pins.leakage) z := by
  unfold State.zoneTurn
  dsimp only
  cases state : (s.zone z).state.isTripped with
  | false =>
    obtain ⟨kept, silent⟩ := Zone.cleared_of_free (s.straps.zoneFitted z) s.pins.leakage state
    rw [State.clearZone_of_free state, kept, silent]
    exact (s.setZone_self z).symm
  | true =>
    obtain ⟨cause, tripped⟩ : ∃ cause, (s.zone z).state = .tripped cause := by
      cases found : (s.zone z).state with
      | tripped cause => exact ⟨cause, rfl⟩
      | _ => rw [found] at state; cases state
    obtain ⟨cleared, trips⟩ := Zone.cleared_of_tripped (s.straps.zoneFitted z) s.pins.leakage tripped
    rw [State.clearZone_of_tripped tripped, cleared, trips]
    cases clears : s.straps.zoneFitted z && (s.zone z).mayClear cause s.pins.leakage with
    | false =>
      simp only [Bool.false_eq_true, if_false, Bool.false_and]
      exact (s.setZone_self z).symm
    | true =>
      have fitted : s.straps.zoneFitted z = true := (Bool.and_eq_true _ _ ▸ clears).1
      simp only [if_true, Bool.true_and]
      rw [State.judgeZone_eq, State.zone_setZone, State.setZone_setZone, State.zoneFitted_of, fitted]
      rfl

theorem State.clearTrips_eq (s : State) :
    s.clearTrips =
      (s.mapZones fun z r => r.cleared (s.straps.zoneFitted z) s.pins.leakage).noteIf
        (zones.any fun z => (s.zone z).clearedTrips (s.straps.zoneFitted z) s.pins.leakage) := by
  refine State.forZones_eq (s := s) (f := fun t z => t.clearZone z)
    (g := fun z r => r.cleared (s.straps.zoneFitted z) s.pins.leakage)
    (trips := fun z r => r.clearedTrips (s.straps.zoneFitted z) s.pins.leakage) fun t z identity pins => ?_
  have straps : s.straps = t.straps := (State.straps_congr identity).symm
  rw [State.clearZone_turn t z, straps, show s.pins = t.pins from pins.symm]

/-- What clearing makes of a tripped fitted zone (R55, R57). -/
theorem Zone.cleared_of_fitted {cause : TripCause} (leak : Bool) (tripped : r.state = .tripped cause) {clears : Bool}
    (may : clears = true ↔ r.mayClear cause leak = true) :
    r.cleared true leak =
      if clears = false then r
      else if leak then { r with state := .tripped .leakage, cut := true, out := false, openCount := 0 }
      else if r.sensorFault then { r with state := .tripped .sensor, cut := true, out := false, openCount := 0 }
      else if 220 ≤ r.temperature.getD 0 then { r with state := .tripped .overtemp, cut := true, out := false, openCount := 0 }
      else { r with state := .idle, openCount := 0 } := by
  obtain ⟨cleared, -⟩ := Zone.cleared_of_tripped true leak tripped
  rw [cleared, ← Bool.eq_iff_iff.2 may]
  cases clears with
  | false => rfl
  | true => exact r.untripped.judged_of_fitted leak

end

/-- What a clearing of all trips leaves of a station. -/
theorem State.clearTrips_heat (s : State) :
    s.clearTrips.heat =
      { s.heat with zones := .ofFn fun z => (s.heat.zones.get z).cleared (s.straps.zoneFitted z) s.pins.leakage } := by
  rw [State.clearTrips_eq, State.noteIf_heat]
  rfl

theorem State.clearTrips_rest (s : State) :
    s.clearTrips.load = s.load ∧ s.clearTrips.level = s.level ∧ s.clearTrips.feed = s.feed ∧
      s.clearTrips.sup = s.sup := by
  rw [State.clearTrips_eq, State.noteIf_eq]
  exact ⟨rfl, rfl, rfl, rfl⟩

theorem Zone.cleared_of_untouched {r : Zone} {fitted : Bool} (leak : Bool)
    (untouched : fitted = false ∨ r.state.isTripped = false) : r.cleared fitted leak = r := by
  rcases untouched with rfl | free
  · unfold Zone.cleared
    split
    · rfl
    · rfl
  · exact (Zone.cleared_of_free fitted leak free).1

/-- What an accepted command that clears the trips ends in, the heating mode being what it sets. -/
theorem State.clearTrips_judged {u t : State} {k : CommandKind} {sender : Fin 16}
    (same : State.SameButStatus (u.clearTrips.judged k (some .heating) sender none) t) :
    t.sup.serial = u.sup.serial + 1 ∧ t.load = u.load ∧ t.level = u.level ∧ t.feed = u.feed ∧
      t.heat = { u.heat with zones := t.heat.zones } ∧ t.sup.outcome = some ⟨k, some .heating, sender, none⟩ ∧
      ∀ z, t.heat.zones.get z = (u.heat.zones.get z).cleared (u.straps.zoneFitted z) u.pins.leakage := by
  obtain ⟨load, level, feed, sup⟩ := u.clearTrips_rest
  have heat := same.heat.trans u.clearTrips_heat
  refine ⟨?_, same.load.trans load, same.level.trans level, same.feed.trans feed, by rw [heat], same.outcome, fun z => ?_⟩
  · rw [same.serial, State.judged, sup]
  · rw [heat]
    exact quad_get_ofFn _ z

/-- Settles O30: both commands as the clearing of each zone, with R55's table on a cleared one. -/
theorem clearJudgesTrips : Obligations.ClearJudgesTrips := by
  unfold Obligations.ClearJudgesTrips
  constructor
  · intro s sender running unfitted
    refine State.take_reaches running _ fun t same => ?_
    rwa [State.takeClearHeating, if_pos unfitted] at same
  · intro s sender running fitted c command
    rcases command with rfl | ⟨rfl, off⟩
    · refine State.take_reaches running _ fun t same => ?_
      rw [State.takeClearHeating, if_neg fitted] at same
      obtain ⟨serial, load, level, feed, heat, outcome, zone⟩ := State.clearTrips_judged same
      have mode : t.heat.mode = s.heat.mode := by rw [heat]
      refine ⟨serial, load, level, feed, by rw [mode]; exact heat, fun _ => ⟨mode, outcome⟩, nofun, fun z =>
        ⟨fun untouched => (zone z).trans (Zone.cleared_of_untouched _ untouched), fun fitted cause tripped clears may => ?_⟩⟩
      rw [zone z, fitted]
      exact Zone.cleared_of_fitted _ tripped (may.trans (Zone.mayClear_iff _ cause _).symm)
    · refine State.take_reaches running _ fun t same => ?_
      rw [State.takeModeHeating_of_fitted sender true fitted, State.setHeatingMode_on off] at same
      obtain ⟨serial, load, level, feed, heat, outcome, zone⟩ := State.clearTrips_judged same
      have mode : t.heat.mode = true := by rw [heat]
      have zone : ∀ z, t.heat.zones.get z = (s.heat.zones.get z).cleared (s.straps.zoneFitted z) s.pins.leakage := zone
      refine ⟨serial, load, level, feed, by rw [mode]; exact heat, nofun, fun _ => ⟨mode, outcome⟩, fun z =>
        ⟨fun untouched => (zone z).trans (Zone.cleared_of_untouched _ untouched), fun fitted cause tripped clears may => ?_⟩⟩
      rw [zone z, fitted]
      exact Zone.cleared_of_fitted _ tripped (may.trans (Zone.mayClear_iff _ cause _).symm)

/-! ## The shed handshake's reports -/

section
variable {s : State} {k : StationKind} {c : Content} {p : Nat} {f : Option Content}

/-- The station with the slot that was in flight settled, before the block that offered is told (R15, R17). -/
def State.sentSettled (s : State) (k : StationKind) : State :=
  { s with
    line :=
      { s.line.cleared with
        queue :=
          { s.line.queue.set k ((s.line.queue.get k).settled s.line.queue.nextPosition) with
            nextPosition := (s.line.queue.set k ((s.line.queue.get k).settled s.line.queue.nextPosition)).nextPosition + 1 }
        sending := none } }

theorem State.sendSucceeded_of_flying (flies : s.line.queue.get k = .inFlight c p f) :
    s.sendSucceeded k = (s.sentSettled k).reportSent c := by
  simp only [State.sendSucceeded, flies, TxSlot.flyingContent]
  unfold State.sentSettled
  rw [flies]
  rfl

/-- The report of a success, as an event of a running part. -/
theorem exec_sendComplete_success {P : State → Prop} (running : s.phase = .running)
    (flies : s.line.queue.get k = .inFlight c p f) (only : s.line.queue.OnlyFlying k)
    (hP : ∀ t, State.SameButStatus ((s.sentSettled k).reportSent c) t → P t) :
    ∃ t, exec (.sendComplete .success) s = .next t ∧ P t := by
  refine State.take_reaches running _ fun t same => hP t ?_
  rwa [State.completeSend_success flies only, State.sendSucceeded_of_flying flies] at same

theorem State.sentSettled_slot {other : StationKind} (differs : other ≠ k) :
    (s.sentSettled k).line.queue.get other = s.line.queue.get other := by
  unfold State.sentSettled
  dsimp only
  rw [TxQueue.get_nextPosition, TxQueue.get_set, if_neg differs]

theorem State.offerShedAck_newest (s : State) :
    (s.offerShedAck.line.queue.get .shedAck).newest = some (.shedAck ⟨s.heating, s.windowRuns⟩) := TxSlot.offered_newest _ _ _

end

/-- Settles O32: the report of each kind to the Load Share Unit. -/
theorem shedAckFollowsDemand : Obligations.ShedAckFollowsDemand := by
  unfold Obligations.ShedAckFollowsDemand
  constructor
  · intro s c p f running flies only
    refine exec_sendComplete_success running flies only fun t same => ⟨fun due => ?_, fun idle => ?_⟩
    · have acked : (s.sentSettled .demand).demandSent c = (s.sentSettled .demand).offerShedAck :=
        if_pos (by simpa using And.intro (show (s.sentSettled .demand).load.ack = _ from due.1) due.2)
      rw [State.reportSent, acked] at same
      have slot := same.slot .shedAck nofun
      exact ⟨same.load, (congrArg TxSlot.newest slot).trans (State.offerShedAck_newest _)⟩
    · have silent : (s.sentSettled .demand).demandSent c = s.sentSettled .demand :=
        if_neg (by simp only [Bool.and_eq_true, beq_iff_eq]; exact idle)
      rw [State.reportSent, silent] at same
      exact ⟨same.load, (same.slot .shedAck nofun).trans (State.sentSettled_slot nofun)⟩
  · intro s c p f running flies only
    refine exec_sendComplete_success running flies only fun t same => ?_
    have load := same.load
    rw [load, State.reportSent, State.shedAckSent]
    split
    next standing => rw [if_pos (show s.load.standing = true from standing)]; rfl
    next free => rw [if_neg (show ¬s.load.standing = true from free)]; rfl

end Sys2Proof.Machine
end

section
/-! PROOFS. The Feed Controller: how its sensors are judged (R116, R118), what its timers and pulses make of a drive (R125 to R127),
and what a control period makes of both (R121 to R124, R128). -/

namespace Sys2Proof.Machine

/-! ## The feed sensors -/

theorem Sensor.taken_feedReading (r : Sensor) (reading : Reading) (expiry : Nat) :
    r.taken (feedReading reading) expiry =
      (match reading with
        | .value v => if 0 ≤ v ∧ v ≤ 100 then ⟨some v, false, some expiry⟩ else ⟨r.last, true, some expiry⟩
        | .openCircuit => ⟨r.last, true, some expiry⟩) := by
  cases reading with
  | openCircuit => rfl
  | value v =>
    by_cases inside : 0 ≤ v ∧ v ≤ 100
    · simp [feedReading, readingWithin, Sensor.taken, inside]
    · simp [feedReading, readingWithin, Sensor.taken, inside]

theorem State.takeFeedReading_of_read {s : State} {sensor : FeedSensor} (reading : Reading)
    (read : s.readsFeedSensor sensor = true) :
    s.takeFeedReading sensor reading =
      { s with
        feed := s.feed.setSensor sensor ((s.feed.sensor sensor).taken (feedReading reading) (s.now + 3000)) } := if_pos read

theorem State.takeFeedReading_of_unread {s : State} {sensor : FeedSensor} (reading : Reading)
    (unread : s.readsFeedSensor sensor = false) : s.takeFeedReading sensor reading = s := by
  simp [State.takeFeedReading, unread]

/-- Settles O39: a reading of a sensor the station reads replaces its record, and its silence sets FAULT. -/
theorem feedSensorsJudged : Obligations.FeedSensorsJudged := by
  unfold Obligations.FeedSensorsJudged
  refine ⟨?read, ?unread, ?silent⟩
  case read =>
    intro s sensor r running read
    refine State.take_reaches running (fun t => t.takeFeedReading sensor r) fun t same => ?_
    rw [State.takeFeedReading_of_read r read, Sensor.taken_feedReading] at same
    exact same
  case unread =>
    intro s sensor r running unread
    refine State.take_reaches running (fun t => t.takeFeedReading sensor r) fun t same => ?_
    rwa [State.takeFeedReading_of_unread r unread] at same
  case silent =>
    intro s sensor d running runs came
    exact State.takeExpiry_reaches running runs came (fun t => t.feedSilent sensor) fun t same => same

/-! ## The timers and pulses of a drive -/

theorem State.alarm_feedStall_of_stall (s : State) (d : Drive) : (s.setDrive d (s.feed.drive d).stall).alarm .feedStall = true := by
  cases d with
  | conveyor => rfl
  | auger => exact Bool.or_true _

theorem DriveRecord.captureTimer_eq {r : DriveRecord} {last : Nat} (pulsed : r.lastPulse = some last)
    (captured : r.period.isSome = true) : r.captureTimer = some (last + 65535) := by
  simp [DriveRecord.captureTimer, pulsed, captured, Config.maxCapture]

theorem Feed.stallTime_eq (f : Feed) :
    f.stallTime = (match f.page with | some page => 10 * page.stallTime | none => 50000) := by
  unfold Feed.stallTime
  cases f.page with
  | none => rfl
  | some page => simp [Config.ms, Nat.mul_comm]

/-- A pulse after the last sets the captured period and restarts a stall timer that runs (R125, R126). -/
theorem DriveRecord.pulse_of_later (r : DriveRecord) {now : Nat} (time : Nat)
    (later : ∀ last, r.lastPulse = some last → last < now) :
    r.pulse now time =
      { r with
        lastPulse := some now
        period :=
          match r.lastPulse with
          | some last => if now - last ≤ 65535 then some (now - last) else none
          | none => none
        stallTimer := r.stallTimer.map fun _ => now + time } := by
  cases pulsed : r.lastPulse with
  | none => simp [DriveRecord.pulse, pulsed]
  | some last =>
    have after := later last pulsed
    simp [DriveRecord.pulse, pulsed, Config.maxCapture, show ¬now - last = 0 by omega]

/-- A pulse at time 0 after the last is a contact bounce (R125). -/
theorem DriveRecord.pulse_of_bounce {r : DriveRecord} {now last : Nat} (time : Nat) (pulsed : r.lastPulse = some last)
    (bounce : now ≤ last) : r.pulse now time = r := by
  simp [DriveRecord.pulse, pulsed, Nat.sub_eq_zero_of_le bounce]

theorem State.setDrive_self (s : State) (d : Drive) : s.setDrive d (s.feed.drive d) = s := by
  cases d <;> rfl

theorem State.takeSpeedPulse_of_owner {s : State} (d : Drive) (owner : s.owner = true) :
    s.takeSpeedPulse d = s.setDrive d ((s.feed.drive d).pulse s.now s.feed.stallTime) := if_pos owner

theorem State.takeSpeedPulse_of_other {s : State} (d : Drive) (other : s.owner = false) : s.takeSpeedPulse d = s := by
  simp [State.takeSpeedPulse, other]

/-- Settles O42: each expiry and each pulse replaces the record of its drive. -/
theorem driveTimersAndPulses : Obligations.DriveTimersAndPulses := by
  unfold Obligations.DriveTimersAndPulses
  refine ⟨?hold, ?stall, ?capture, ?pulse, ?ignored⟩
  case hold =>
    intro s drive d running runs came
    exact State.takeExpiry_reaches running runs came (fun t => t.setDrive drive (t.feed.drive drive).holdOver) fun t same => same
  case stall =>
    intro s drive d running runs came
    refine State.takeExpiry_reaches running runs came (fun t => t.setDrive drive (t.feed.drive drive).stall)
      fun t same => ⟨?_, same⟩
    rw [same.alarm]
    exact s.alarm_feedStall_of_stall drive
  case capture =>
    intro s drive last running pulsed captured came
    exact State.takeExpiry_reaches running (DriveRecord.captureTimer_eq pulsed captured) came
      (fun t => t.setDrive drive (t.feed.drive drive).captureOver) fun t same => same
  case pulse =>
    intro s drive running owner later
    refine State.take_reaches running (fun t => t.takeSpeedPulse drive) fun t same => ?_
    rw [State.takeSpeedPulse_of_owner drive owner, DriveRecord.pulse_of_later _ _ later, Feed.stallTime_eq] at same
    cases timer : (s.feed.drive drive).stallTimer with
    | none =>
      rw [timer] at same
      exact same
    | some d =>
      rw [timer] at same
      exact same
  case ignored =>
    intro s drive running ignored
    refine State.take_reaches running (fun t => t.takeSpeedPulse drive) fun t same => ?_
    rcases ignored with other | ⟨last, pulsed, bounce⟩
    · rwa [State.takeSpeedPulse_of_other drive other] at same
    · by_cases owner : s.owner = true
      · rwa [State.takeSpeedPulse_of_owner drive owner, DriveRecord.pulse_of_bounce _ pulsed bounce, s.setDrive_self] at same
      · rwa [State.takeSpeedPulse_of_other drive (by simpa using owner)] at same

/-! ## What a control period finds -/

/-- The state as a control period's steps 4 and 5 find it: the timer run on, a waiting page applied, the view rebuilt (R121). -/
def State.periodReady (s : State) : State :=
  (({ s with feed := { s.feed with periodTimer := s.feed.periodTimer.map (· + Config.controlPeriod) } } : State).applyFeedPage).buildView

/-- The FEED page in force after a waiting one is applied (R128). -/
def State.feedPageNext (s : State) : Option FeedPage :=
  if s.feed.pending then (match s.settings.feed with | some held => some held.page | none => s.feed.page) else s.feed.page

theorem State.applyFeedPage_cases (s : State) :
    ∃ pending due,
      s.applyFeedPage =
        { s with feed := { s.feed with page := s.feedPageNext, pending := pending }, sup := { s.sup with offerDue := due } } := by
  by_cases pending : s.feed.pending = true
  · cases held : s.settings.feed with
    | none =>
      have kept : s.feedPageNext = s.feed.page := by simp [State.feedPageNext, pending, held]
      exact ⟨s.feed.pending, s.sup.offerDue, by rw [State.applyFeedPage, if_pos pending, held, kept]⟩
    | some page =>
      exact ⟨false, true, by simp [State.applyFeedPage, State.feedPageNext, State.askStatus, pending, held]⟩
  · exact ⟨s.feed.pending, s.sup.offerDue, by rw [State.applyFeedPage, if_neg pending, State.feedPageNext, if_neg pending]⟩

theorem State.periodReady_cases (s : State) :
    ∃ pending due,
      s.periodReady =
        { s with
          feed :=
            { s.feed with
              page := s.feedPageNext, pending := pending, view := s.sideView
              periodTimer := s.feed.periodTimer.map (· + 1000)
              source := (match outermost s.sideView with | some e => .station e.station | none => .tunnel)
              edgeColdUsed := (match outermost s.sideView with | some e => e.edgeCold | none => false) }
          sup := { s.sup with offerDue := due } } := by
  obtain ⟨pending, due, applied⟩ :=
    ({ s with feed := { s.feed with periodTimer := s.feed.periodTimer.map (· + Config.controlPeriod) } } :
      State).applyFeedPage_cases
  exact ⟨pending, due, by rw [State.periodReady, applied]; rfl⟩

section
variable (s : State)

theorem State.periodReady_page : s.periodReady.feed.page = s.feedPageNext := by
  obtain ⟨pending, due, ready⟩ := s.periodReady_cases
  rw [ready]

theorem State.periodReady_drive (d : Drive) : s.periodReady.feed.drive d = s.feed.drive d := by
  obtain ⟨pending, due, ready⟩ := s.periodReady_cases
  rw [ready]
  cases d <;> rfl

theorem State.periodReady_feedSpeed :
    s.periodReady.feedSpeed = if s.travel.state = .paving then s.travel.speed.toNat else 0 := by
  obtain ⟨pending, due, ready⟩ := s.periodReady_cases
  rw [ready]
  by_cases paving : s.travel.state = .paving
  · by_cases moving : 0 < s.travel.speed
    · simp [State.feedSpeed, paving, moving]
    · simp [State.feedSpeed, paving, moving, Int.toNat_of_nonpos (Int.not_lt.1 moving)]
  · simp [State.feedSpeed, paving]

/-- The level a drive reads is the tunnel sensor's, but for an auger whose view has an outermost entry (R122). -/
theorem State.periodReady_levelOf (d : Drive) :
    s.periodReady.feed.levelOf d =
      match d, outermost s.sideView with
      | .auger, some e => some (e.level : Int)
      | _, _ => s.feed.tunnel.reading := by
  obtain ⟨pending, due, ready⟩ := s.periodReady_cases
  rw [ready]
  cases d with
  | conveyor => rfl
  | auger =>
    cases entry : outermost s.sideView with
    | none => simp [Feed.levelOf, Feed.augerLevel, entry]
    | some e => simp [Feed.levelOf, Feed.augerLevel, entry]

theorem State.periodReady_edgeCold :
    s.periodReady.feed.edgeColdUsed = (match outermost s.sideView with | some e => e.edgeCold | none => false) := by
  obtain ⟨pending, due, ready⟩ := s.periodReady_cases
  rw [ready]

theorem State.controlDrives_drive (d : Drive) :
    s.controlDrives.feed.drive d =
      (s.feed.drive d).runPeriod (s.periodReady.lawTarget d) s.now s.periodReady.feed.stallTime := by
  have now : s.periodReady.now = s.now := by
    obtain ⟨pending, due, ready⟩ := s.periodReady_cases
    rw [ready]
  rw [← now, ← s.periodReady_drive d]
  cases d <;> rfl

theorem State.controlDrives_rest :
    s.controlDrives.feed.periodTimer = s.feed.periodTimer.map (· + 1000) ∧ s.controlDrives.feed.page = s.feedPageNext ∧
      s.controlDrives.feed.view = s.sideView ∧
      State.SameButStatus { s with feed := s.controlDrives.feed } s.controlDrives := by
  obtain ⟨pending, due, ready⟩ := s.periodReady_cases
  rw [show s.controlDrives = s.periodReady.runDrives from rfl, ready]
  exact ⟨rfl, rfl, rfl, rfl⟩

end

/-! ## What a control period makes of a drive -/

section
variable {r : DriveRecord} (law : Option Nat) (now time : Nat)

theorem DriveRecord.runPeriod_of_still (still : r.mode = .off ∨ r.condition = .stalled) : r.runPeriod law now time = r := by
  rcases still with off | stalled
  · simp [DriveRecord.runPeriod, off]
  · simp [DriveRecord.runPeriod, stalled]

theorem DriveRecord.runPeriod_of_moving (on : r.mode ≠ .off) (free : r.condition ≠ .stalled) :
    r.runPeriod law now time =
      { (r.judge law now).1 with
        command := rateLimited r.command (r.judge law now).2
        stallTimer := stallAfter r.stallTimer r.command (rateLimited r.command (r.judge law now).2) now time } := by
  simp [DriveRecord.runPeriod, on, free]

theorem DriveRecord.judge_of_manual (manual : r.mode = .manual) : r.judge law now = (r, r.manualTarget) := by
  simp [DriveRecord.judge, manual]

theorem DriveRecord.judge_of_law {target : Nat} (auto : r.mode = .auto) :
    r.judge (some target) now = ({ r with condition := .driving, holdTimer := none }, target) := by
  simp [DriveRecord.judge, auto]

/-- Without its level a drive in AUTO that was DRIVING begins SENSOR-HOLD (R127). -/
theorem DriveRecord.judge_of_lost (auto : r.mode = .auto) (driving : r.condition = .driving) :
    r.judge none now = ({ r with condition := .sensorHold, holdTimer := some (now + 50000) }, r.command) := by
  simp [DriveRecord.judge, auto, driving, Config.holdTime, Config.ms]

theorem DriveRecord.judge_of_hold (auto : r.mode = .auto) (hold : r.condition = .sensorHold) :
    r.judge none now = (r, r.command) := by
  simp [DriveRecord.judge, auto, hold]

theorem DriveRecord.judge_of_ramp (auto : r.mode = .auto) (ramp : r.condition = .sensorRamp) : r.judge none now = (r, 0) := by
  simp [DriveRecord.judge, auto, ramp]

end

/-- Settles O41: a period finds the page, the level and the setpoint of its step 2, and moves each drive by the law of its mode. -/
theorem controlPeriodMovesDrives : Obligations.ControlPeriodMovesDrives := by
  unfold Obligations.ControlPeriodMovesDrives
  intro s d page running runs came next
  obtain ⟨timer, applied, view, frame⟩ := s.controlDrives_rest
  refine State.takeExpiry_reaches running runs came State.controlDrives fun t same => ?_
  rw [same.feed]
  refine ⟨by rw [timer, runs]; rfl, by rw [applied, next]; rfl, view, frame.trans same, ?moves, ?still⟩
  case still =>
    intro drive still
    rw [s.controlDrives_drive, DriveRecord.runPeriod_of_still _ _ _ still]
  case moves =>
    intro drive level setpoint target conveyor auger free target_eq
    have page_eq : s.periodReady.feed.page = page := s.periodReady_page.trans next.symm
    have level_eq : s.periodReady.feed.levelOf drive = level := by
      rw [s.periodReady_levelOf]
      cases drive with
      | conveyor => exact (conveyor rfl).1.symm
      | auger =>
        cases entry : outermost s.sideView with
        | none => exact ((auger rfl).2 entry).1.symm
        | some e => exact ((auger rfl).1 e entry).1.symm
    have setpoint_eq : ∀ p, page = some p → p.setpointUsed drive s.periodReady.feed.edgeColdUsed = setpoint := by
      intro p given
      rw [s.periodReady_edgeCold]
      cases drive with
      | conveyor => exact ((conveyor rfl).2 p given).symm
      | auger =>
        cases entry : outermost s.sideView with
        | none => exact (((auger rfl).2 entry).2 p given).symm
        | some e =>
          rw [((auger rfl).1 e entry).2 p given]
          cases cold : e.edgeCold <;> simp [FeedPage.setpointUsed, FeedPage.gains, cold]
    have law_some : ∀ p v, page = some p → level = some v →
        s.periodReady.lawTarget drive =
          some (feedTarget (p.gains drive).kff s.periodReady.feedSpeed (p.gains drive).kl setpoint v) := by
      intro p v given present
      rw [← setpoint_eq p given]
      simp only [State.lawTarget, page_eq, given, level_eq, present]
    have law_none : level = none → s.periodReady.lawTarget drive = none := by
      intro absent
      cases given : page <;> simp [State.lawTarget, page_eq, level_eq, absent, given]
    rw [s.controlDrives_drive]
    rcases target_eq with ⟨manual, rfl⟩ | ⟨auto, p, v, given, present, formula⟩ | ⟨auto, absent, condition, rfl⟩ |
      ⟨auto, absent, ramp, rfl⟩
    · rw [DriveRecord.runPeriod_of_moving _ _ _ (by simp [manual]) free, DriveRecord.judge_of_manual _ _ manual]
      exact ⟨rfl, fun auto => (by simp [manual] at auto), fun auto => (by simp [manual] at auto), rateLimited_eq _ _⟩
    · rw [← s.periodReady_feedSpeed] at formula
      rw [DriveRecord.runPeriod_of_moving _ _ _ (by simp [auto]) free, law_some p v given present, feedTarget_eq formula,
        DriveRecord.judge_of_law _ auto]
      exact ⟨rfl, fun _ _ _ => ⟨rfl, rfl⟩, fun _ lost => (by simp [present] at lost), rateLimited_eq _ _⟩
    · rw [DriveRecord.runPeriod_of_moving _ _ _ (by simp [auto]) free, law_none absent]
      rcases condition with driving | hold
      · rw [DriveRecord.judge_of_lost _ auto driving]
        exact ⟨rfl, fun _ known => (by simp [absent] at known), fun _ _ _ => ⟨rfl, rfl⟩, rateLimited_eq _ _⟩
      · rw [DriveRecord.judge_of_hold _ auto hold]
        exact ⟨rfl, fun _ known => (by simp [absent] at known), fun _ _ driving => (by simp [hold] at driving),
          rateLimited_eq _ _⟩
    · rw [DriveRecord.runPeriod_of_moving _ _ _ (by simp [auto]) free, law_none absent, DriveRecord.judge_of_ramp _ auto ramp]
      exact ⟨rfl, fun _ known => (by simp [absent] at known), fun _ _ driving => (by simp [ramp] at driving),
        rateLimited_eq _ 0⟩

end Sys2Proof.Machine
end

section
/-! PROOFS. The valve driver's table (R94 to R96), and how a MODE LEVELLING is judged and what each change of the side mode does (R85
to R88, R113). -/

namespace Sys2Proof.Machine

/-! ## The valve driver -/

section
variable {r : Request} {now : Nat}

theorem Request.over_of_live (live : ∀ e, r.timing = .until e → now < e) : r.over now = false := by
  match timing : r.timing with
  | .until e => simpa [Request.over, timing] using live e timing
  | .length n => simp [Request.over, timing]

theorem Request.over_of_past {e : Nat} (timing : r.timing = .until e) (past : e ≤ now) : r.over now = true := by
  simp [Request.over, timing, past]

/-- A live request taken by the driver (R95). -/
theorem Driver.request_of_live (driver : Driver) (deadTime : Nat) (live : ∀ e, r.timing = .until e → now < e) :
    driver.request r deadTime now =
      (match driver with
        | .neutral => r.energised now
        | .driving p =>
          if p.direction = r.direction ∨ deadTime = 0 then r.energised now
          else .dead (.one (opposite p.direction)) (some (now + deadTime)) (some r)
        | .dead .both timer _ => .dead .both timer (some r)
        | .dead (.one coil) timer _ => if coil = r.direction then .dead (.one coil) timer (some r) else r.energised now) := by
  unfold Driver.request
  rw [Request.over_of_live live]
  cases driver with
  | neutral => rfl
  | driving p =>
    by_cases same : p.direction = r.direction
    · simp [same]
    · by_cases none : deadTime = 0
      · simp [none]
      · simp [same, none, coilOff]
  | dead blocked timer waiting =>
    cases blocked with
    | both => rfl
    | one coil =>
      by_cases same : coil = r.direction
      · simp [same, Blocked.blocks]
      · simp [same, Blocked.blocks]

theorem Driver.request_of_past (driver : Driver) (deadTime : Nat) {e : Nat} (timing : r.timing = .until e) (past : e ≤ now) :
    driver.request r deadTime now = driver.neutralRequest deadTime now := by
  unfold Driver.request
  rw [if_pos (Request.over_of_past timing past)]

end

/-- A neutral request ends a running pulse and drops a waiting one of the control law; a waiting JOG stays (R95). -/
theorem Driver.neutralRequest_eq (driver : Driver) (deadTime now : Nat) :
    driver.neutralRequest deadTime now =
      (match driver with
        | .neutral => .neutral
        | .driving p =>
          if deadTime = 0 then .neutral else .dead (.one (opposite p.direction)) (some (now + deadTime)) none
        | .dead blocked timer (some ⟨direction, .jog, timing⟩) => .dead blocked timer (some ⟨direction, .jog, timing⟩)
        | .dead blocked timer _ => .dead blocked timer none) := by
  cases driver with
  | neutral => rfl
  | driving p => rfl
  | dead blocked timer waiting =>
    cases waiting with
    | none => rfl
    | some w =>
      obtain ⟨direction, origin, timing⟩ := w
      cases origin with
      | auto => rfl
      | jog => rfl

theorem Driver.deadTimeOver_eq (b : Blocked) (timer : Option Nat) (w : Option Request) (now : Nat) :
    (Driver.dead b timer w).deadTimeOver now =
      (match w with
        | none => .neutral
        | some ⟨direction, origin, .until e⟩ => if e ≤ now then .neutral else .driving ⟨direction, origin, e⟩
        | some ⟨direction, origin, .length n⟩ => .driving ⟨direction, origin, now + n⟩) := by
  cases w with
  | none => rfl
  | some r =>
    obtain ⟨direction, origin, timing⟩ := r
    match timing with
    | .until e =>
      by_cases past : e ≤ now
      · simp [Driver.deadTimeOver, Request.over, past]
      · simp [Driver.deadTimeOver, Request.over, Request.energised, Request.endAt, past]
    | .length n => rfl

/-- Settles O35: the driver's table, by the driver's state, the blocked coil and the request's timing. -/
theorem valveDriverFollowsTable : Obligations.ValveDriverFollowsTable := by
  unfold Obligations.ValveDriverFollowsTable
  refine ⟨?pulseEnd, ?deadTime, ?live, ?past⟩
  case pulseEnd =>
    intro s p running driving reached
    have timer : s.level.driver.pulseTimer = some p.endAt := by simp [Driver.pulseTimer, driving]
    refine State.takeExpiry_reaches running timer reached State.endPulse fun t same => ?_
    rw [State.endPulse, driving, Levelling.deadTime_eq] at same
    exact same
  case deadTime =>
    intro s b d w running dead reached
    have timer : s.level.driver.deadTimer = some d := by simp [Driver.deadTimer, dead]
    refine State.takeExpiry_reaches running timer reached State.endDeadTime fun t same => ?_
    rw [State.endDeadTime, dead, Driver.deadTimeOver_eq] at same
    exact same
  case live =>
    intro driver r deadTime now live on energised
    rw [energised]
    exact Driver.request_of_live driver deadTime live
  case past =>
    intro driver r deadTime now e timing past
    exact ⟨Driver.request_of_past driver deadTime timing past, Driver.neutralRequest_eq driver deadTime now⟩

/-! ## References and causes -/

theorem Causes.any_eq_false_iff (c : Causes) : c.any = false ↔ c = ⟨false, false, false⟩ := by
  obtain ⟨sensor, conflict, partner⟩ := c
  cases sensor <;> cases conflict <;> cases partner <;> decide

theorem Causes.condition_eq (c : Causes) :
    (if c.any then SideCondition.hold else .active) = if c = ⟨false, false, false⟩ then .active else .hold := by
  cases any : c.any with
  | false => rw [if_pos ((Causes.any_eq_false_iff c).1 any), if_neg (by decide)]
  | true =>
    have filled : ¬c = ⟨false, false, false⟩ := by
      rintro rfl
      exact absurd any (by decide)
    rw [if_neg filled, if_pos rfl]

section
variable {l : Levelling}

theorem Levelling.sensorOf_eq (l : Levelling) (m : SideMode) : l.sensorOf m = if m = .autoSlope then l.slope else l.grade := by
  simp [Levelling.sensorOf]

theorem Levelling.referenceOf_eq (l : Levelling) (m : SideMode) :
    l.referenceOf m = if m = .autoSlope then l.slopeRef else l.gradeRef := by
  simp [Levelling.referenceOf]

theorem Levelling.setReference_gradeRef (l : Levelling) (m : SideMode) (v : Int) :
    (l.setReference m v).gradeRef = if m = .autoSlope then l.gradeRef else v := by
  by_cases slope : m = .autoSlope <;> simp [Levelling.setReference, slope]

theorem Levelling.setReference_slopeRef (l : Levelling) (m : SideMode) (v : Int) :
    (l.setReference m v).slopeRef = if m = .autoSlope then v else l.slopeRef := by
  by_cases slope : m = .autoSlope <;> simp [Levelling.setReference, slope]

/-- A reference is the record's own fields; replacing one leaves the rest of the side. -/
theorem Levelling.setReference_rest (l : Levelling) (m : SideMode) (v : Int) :
    l.setReference m v =
      { l with gradeRef := (l.setReference m v).gradeRef, slopeRef := (l.setReference m v).slopeRef } := by
  by_cases slope : m = .autoSlope <;> simp [Levelling.setReference, slope]

theorem Sensor.reading_of_valid {r : Sensor} {v : Int} (valid : r.fault = false) (last : r.last = some v) :
    r.reading = some v := by
  simp [Sensor.reading, valid, last]

theorem Sensor.reading_of_fault {r : Sensor} (fault : r.fault = true) : r.reading = none := by
  simp [Sensor.reading, fault]

theorem Levelling.capture_of_reading {v : Int} (valid : (l.sensorOf l.mode).reading = some v) :
    l.capture = { l.setReference l.mode v with captured := true } := by
  simp [Levelling.capture, valid]

theorem Levelling.capture_of_none (none : (l.sensorOf l.mode).reading = none) : l.capture = { l with captured := false } := by
  simp [Levelling.capture, none]

/-- A capture sets references and whether they are captured, and nothing else. -/
theorem Levelling.capture_rest (l : Levelling) :
    l.capture =
      { l with gradeRef := l.capture.gradeRef, slopeRef := l.capture.slopeRef, captured := l.capture.captured } := by
  cases reading : (l.sensorOf l.mode).reading with
  | none => rw [Levelling.capture_of_none reading]
  | some v => rw [Levelling.capture_of_reading reading, Levelling.setReference_rest]

theorem Levelling.judge_sensor_iff (partner : Option SideMode) :
    (l.judge partner).sensor = true ↔ (l.sensorOf l.mode).fault = true ∨ l.captured = false := by
  simp [Levelling.judge]

theorem Levelling.judge_conflict_iff (partner : Option SideMode) :
    (l.judge partner).conflict = true ↔ l.mode = .autoSlope ∧ partner = some .autoSlope := by
  simp [Levelling.judge]

theorem Levelling.judge_partner_iff (partner : Option SideMode) :
    (l.judge partner).partner = true ↔
      l.mode = .autoSlope ∧ partner ≠ some .autoGrade ∧ partner ≠ some .autoSlope := by
  cases partner with
  | none => simp [Levelling.judge]
  | some m => simp [Levelling.judge, isAuto]

end

/-! ## MODE LEVELLING refused (R85) -/

section
variable {s : State} {m : SideMode}

theorem State.sideModeRefusal_of_unfitted (unfitted : s.levelling = false) :
    s.sideModeRefusal m = some (if s.straps.towStrap then .strappedOff else .notFitted) := by
  cases strap : s.straps.towStrap <;> simp [State.sideModeRefusal, State.unfittedTow, unfitted, strap]

theorem State.sideModeRefusal_of_fitted (fitted : s.levelling = true) :
    s.sideModeRefusal m =
      if isAuto m = true ∧ s.sup.station ≠ .run then some .parked
      else if isAuto m = true ∧ s.settings.level = none then some .noPage else none := by
  simp [State.sideModeRefusal, State.unfittedTow, State.parkedOrWaking, fitted]

theorem State.sideModeRefusal_eq_none (fitted : s.levelling = true)
    (allowed : isAuto m = false ∨ (s.sup.station = .run ∧ s.settings.level.isSome = true)) : s.sideModeRefusal m = none := by
  rw [State.sideModeRefusal_of_fitted fitted]
  rcases allowed with manual | ⟨run, page⟩
  · simp [manual]
  · rw [if_neg fun parked => parked.2 run, if_neg]
    rintro ⟨-, absent⟩
    simp [absent] at page

theorem exec_modeLevelling_refused {reason : Reason} (sender : Fin 16) (running : s.phase = .running)
    (refused : s.sideModeRefusal m = some reason) :
    ∃ t, exec (.modeLevelling sender m) s = .next t ∧
      State.SameButStatus (s.judged .mode (some .levelling) sender (some reason)) t := by
  refine State.take_reaches running (fun t => t.takeModeLevelling sender m) fun t same => ?_
  rwa [State.takeModeLevelling, refused] at same

theorem exec_modeLevelling_accepted {u : State} (sender : Fin 16) (running : s.phase = .running) (fitted : s.levelling = true)
    (allowed : isAuto m = false ∨ (s.sup.station = .run ∧ s.settings.level.isSome = true)) (set : s.setSideMode m = u)
    {P : State → Prop} (hP : ∀ t, State.SameButStatus (u.judged .mode (some .levelling) sender none) t → P t) :
    ∃ t, exec (.modeLevelling sender m) s = .next t ∧ P t := by
  refine State.take_reaches running (fun t => t.takeModeLevelling sender m) fun t same => hP t ?_
  rwa [State.takeModeLevelling, State.sideModeRefusal_eq_none fitted allowed, set] at same

/-! ## MODE LEVELLING accepted (R86, R87, R113) -/

theorem State.setSideMode_of_same (s : State) : s.setSideMode s.level.mode = s := by simp [State.setSideMode]

theorem State.setSideMode_of_leave (manual : isAuto m = false) (change : m ≠ s.level.mode) :
    s.setSideMode m = s.leaveAuto m := by
  simp [State.setSideMode, manual, change]

theorem State.setSideMode_of_enter (auto : isAuto m = true) (change : m ≠ s.level.mode)
    (free : s.level.condition ≠ .frozen) (unsettled : s.level.condition ≠ .settling) :
    s.setSideMode m = s.enterAuto m := by
  simp [State.setSideMode, auto, change, free, unsettled]

theorem State.setSideMode_of_swap (auto : isAuto m = true) (change : m ≠ s.level.mode)
    (held : s.level.condition = .frozen ∨ s.level.condition = .settling) : s.setSideMode m = s.swapAuto m := by
  simp [State.setSideMode, auto, change, held]

/-- The side as AUTO is entered: no coil energised, the mode and the partner set (R86). -/
def State.entering (s : State) (m : SideMode) : Levelling :=
  { s.level.cut s.now with mode := m, partner := s.partnerSlot.map (·.1) }

theorem State.enterAuto_level (s : State) (m : SideMode) :
    (s.enterAuto m).level =
      { (s.entering m).capture with
        causes := (s.entering m).capture.judge (s.partnerSlot.map (·.2.mode))
        condition :=
          if ((s.entering m).capture.judge (s.partnerSlot.map (·.2.mode))).any then .hold else .active } := rfl

theorem State.entering_sensorOf (s : State) (m : SideMode) :
    (s.entering m).sensorOf (s.entering m).mode = if m = .autoSlope then s.level.slope else s.level.grade :=
  (s.entering m).sensorOf_eq m

end

/-- Settles O36: the refusals in R85's order, then the change of mode by the mode commanded and the condition the side is in. -/
theorem modeLevellingJudged : Obligations.ModeLevellingJudged := by
  unfold Obligations.ModeLevellingJudged
  refine ⟨?refused, ?present, ?leave, ?enter, ?swap⟩
  case refused =>
    intro s sender m reason running found
    refine exec_modeLevelling_refused sender running ?_
    rcases found with ⟨unfitted, rfl⟩ | ⟨fitted, auto, parked, rfl⟩ | ⟨fitted, auto, run, absent, rfl⟩
    · exact State.sideModeRefusal_of_unfitted unfitted
    · rw [State.sideModeRefusal_of_fitted fitted, if_pos ⟨auto, parked⟩]
    · rw [State.sideModeRefusal_of_fitted fitted, if_neg fun parked => parked.2 run, if_pos ⟨auto, absent⟩]
  case present =>
    intro s sender running fitted allowed
    exact exec_modeLevelling_accepted sender running fitted allowed s.setSideMode_of_same fun t same => same
  case leave =>
    intro s sender m running fitted manual change
    refine exec_modeLevelling_accepted sender running fitted (.inl manual) (State.setSideMode_of_leave manual change)
      fun t same => ⟨same.outcome, ?level, ?coil⟩
    case level =>
      rw [same.level]
      rfl
    case coil =>
      rw [same.level]
      exact s.level.cut_energised s.now
  case enter =>
    intro s sender m sensor partner running fitted run page auto change free unsettled sensor_eq partner_eq
    refine exec_modeLevelling_accepted sender running fitted (.inr ⟨run, page⟩)
      (State.setSideMode_of_enter auto change free unsettled) fun t same => ?_
    have level : t.level = (s.enterAuto m).level := same.level
    have sensorOf : (s.entering m).sensorOf (s.entering m).mode = sensor := (s.entering_sensorOf m).trans sensor_eq.symm
    have kept := (s.entering m).capture_rest
    have judges : (s.entering m).capture.sensorOf (s.entering m).capture.mode = sensor := by
      rw [kept]
      exact sensorOf
    have mode : (s.entering m).capture.mode = m := by
      rw [kept]
      rfl
    rw [level, s.enterAuto_level, ← partner_eq]
    refine ⟨same.outcome, same.serial, mode, ?partner, ?coil, ?valid, ?fault, ?sensor, ?conflict, ?partners, ?condition⟩
    case partner =>
      rw [kept]
      rfl
    case coil =>
      rw [kept]
      exact s.level.cut_energised s.now
    case valid =>
      intro v valid last
      have reading := Sensor.reading_of_valid valid last
      rw [← sensorOf] at reading
      rw [Levelling.capture_of_reading reading]
      exact ⟨rfl, Levelling.setReference_gradeRef _ m v, Levelling.setReference_slopeRef _ m v⟩
    case fault =>
      intro fault
      have reading := Sensor.reading_of_fault fault
      rw [← sensorOf] at reading
      rw [Levelling.capture_of_none reading]
      exact ⟨rfl, rfl, rfl⟩
    case sensor => exact Levelling.judge_sensor_iff partner |>.trans (by rw [judges])
    case conflict => exact Levelling.judge_conflict_iff partner |>.trans (by rw [mode])
    case partners => exact Levelling.judge_partner_iff partner |>.trans (by rw [mode])
    case condition => exact Causes.condition_eq _
  case swap =>
    intro s sender m running fitted run page auto change held
    refine exec_modeLevelling_accepted sender running fitted (.inr ⟨run, page⟩) (State.setSideMode_of_swap auto change held)
      fun t same => ⟨same.outcome, ?level, ?coil⟩
    case level =>
      rw [same.level]
      rfl
    case coil =>
      rw [same.level]
      exact s.level.cut_energised s.now

end Sys2Proof.Machine
end

section
/-! PROOFS. The period start of a side (R88 to R90, R92, R93, R101), step by step: the page, the late capture, the partner and the hold
causes, and what the control law hands the driver. -/

namespace Sys2Proof.Machine

/-! ## The partner (R89) -/

/-- The first entry of a list that passes is the head of the list of those that pass. -/
theorem find?_filterMap_eq_head? {α β : Type} (f : α → Option β) (q : β → Bool) :
    ∀ l : List α,
      ((l.filterMap fun n => (f n).map fun c => (n, c)).find? fun p => q p.2) =
        (l.filterMap fun n => ((f n).filter q).map fun c => (n, c)).head?
  | [] => rfl
  | a :: l => by
    have rest := find?_filterMap_eq_head? f q l
    cases found : f a with
    | none => simpa [found] using rest
    | some c =>
      by_cases passes : q c = true
      · simp [found, passes, Option.filter]
      · simpa [found, passes, Option.filter] using rest

theorem PeerSlot.data_eq_some_iff {α : Type} (slot : PeerSlot α) (c : α) : slot.data = some c ↔ ∃ since, slot = .fresh c since := by
  cases slot with
  | empty => simp [PeerSlot.data]
  | stale x => simp [PeerSlot.data]
  | fresh x since => simp [PeerSlot.data]

/-- The HEIGHT content by which a station is a possible partner: FRESH, and of the opposite side (R89). -/
def State.partnerContent (s : State) (n : Fin 8) : Option HeightContent :=
  ((s.line.peers.get n).height.data).filter fun c => c.side != s.straps.side

theorem State.partnerSlot_eq (s : State) :
    s.partnerSlot = (stations.filterMap fun n => (s.partnerContent n).map fun c => (n, c)).head? :=
  find?_filterMap_eq_head? _ (fun c : HeightContent => c.side != s.straps.side) stations

theorem State.partnerContent_eq_some_iff (s : State) (n : Fin 8) (c : HeightContent) :
    s.partnerContent n = some c ↔ (∃ since, (s.line.peers.get n).height = .fresh c since) ∧ c.side ≠ s.straps.side := by
  simp [State.partnerContent, Option.filter_eq_some_iff, PeerSlot.data_eq_some_iff]

theorem State.partnerContent_eq_none_iff (s : State) (n : Fin 8) :
    s.partnerContent n = none ↔
      ∀ (c : HeightContent) (since : Nat), (s.line.peers.get n).height = .fresh c since → c.side = s.straps.side := by
  constructor
  · intro absent c since fresh
    by_contra opposite
    have found := (s.partnerContent_eq_some_iff n c).2 ⟨⟨since, fresh⟩, opposite⟩
    simp [absent] at found
  · intro same
    refine Option.eq_none_iff_forall_ne_some.2 fun c found => ?_
    obtain ⟨⟨since, fresh⟩, opposite⟩ := (s.partnerContent_eq_some_iff n c).1 found
    exact opposite (same c since fresh)

/-- The partner is the lowest-numbered station whose FRESH HEIGHT reports the opposite side (R89). -/
theorem State.partnerSlot_iff (s : State) (n : Fin 8) (c : HeightContent) :
    s.partnerSlot = some (n, c) ↔ s.partnerContent n = some c ∧ ∀ m < n, s.partnerContent m = none := by
  rw [s.partnerSlot_eq]
  constructor
  · intro chosen
    obtain ⟨-, found, lower⟩ := head_filterMap_least s.partnerContent stations (by decide) n c chosen
    exact ⟨found, fun m => lower m (mem_stations m)⟩
  · rintro ⟨found, lower⟩
    exact head_filterMap_eq s.partnerContent found lower stations (by decide) (mem_stations n)

/-! ## The page and the late capture -/

section
variable (s : State)

/-- The LEVEL page in force after a waiting one is applied (R101). -/
def State.levelPageNext : Option LevelPage :=
  if s.level.pending then (match s.settings.level with | some held => some held.page | none => s.level.page) else s.level.page

/-- The side with its period run on and the page that waits applied. -/
def State.levelPaged : Levelling :=
  { s.level with
    periodTimer := s.level.periodTimer.map (· + 1000), page := s.levelPageNext
    pending := s.level.pending && s.settings.level.isNone }

theorem State.applyLevelPage_cases :
    ∃ due,
      s.applyLevelPage =
        { s with
          level := { s.level with page := s.levelPageNext, pending := s.level.pending && s.settings.level.isNone }
          sup := { s.sup with offerDue := due } } := by
  by_cases pending : s.level.pending = true
  · cases held : s.settings.level with
    | none =>
      have kept : s.levelPageNext = s.level.page := by simp [State.levelPageNext, pending, held]
      have waits : (s.level.pending && (none : Option (Held LevelPage)).isNone) = s.level.pending := Bool.and_true _
      exact ⟨s.sup.offerDue, by rw [State.applyLevelPage, if_pos pending, held, kept, waits]⟩
    | some page => exact ⟨true, by simp [State.applyLevelPage, State.levelPageNext, State.askStatus, pending, held]⟩
  · have waits : (s.level.pending && s.settings.level.isNone) = s.level.pending := by simp [pending]
    exact ⟨s.sup.offerDue, by rw [State.applyLevelPage, if_neg pending, State.levelPageNext, if_neg pending, waits]⟩

end

/-- A side whose reference is not captured captures it from a VALID sensor (R92). -/
def Levelling.capturedLate (l : Levelling) : Levelling :=
  if l.captured then l
  else
    match (l.sensorOf l.mode).reading with
    | some v => { l.setReference l.mode v with captured := true }
    | none => l

section
variable {l : Levelling}

theorem Levelling.capturedLate_of_captured (captured : l.captured = true) : l.capturedLate = l := if_pos captured

theorem Levelling.capturedLate_of_reading {v : Int} (uncaptured : l.captured = false)
    (reading : (l.sensorOf l.mode).reading = some v) :
    l.capturedLate = { l.setReference l.mode v with captured := true } := by
  simp [Levelling.capturedLate, uncaptured, reading]

theorem Levelling.capturedLate_of_none (none : (l.sensorOf l.mode).reading = none) : l.capturedLate = l := by
  simp [Levelling.capturedLate, none]

theorem Levelling.capturedLate_rest (l : Levelling) :
    l.capturedLate =
      { l with
        gradeRef := l.capturedLate.gradeRef, slopeRef := l.capturedLate.slopeRef, captured := l.capturedLate.captured } := by
  by_cases captured : l.captured = true
  · rw [Levelling.capturedLate_of_captured captured]
  · cases reading : (l.sensorOf l.mode).reading with
    | none => rw [Levelling.capturedLate_of_none reading]
    | some v =>
      rw [Levelling.capturedLate_of_reading (by simpa using captured) reading, Levelling.setReference_rest]

end

theorem State.captureLate_of_auto {s : State} (auto : isAuto s.level.mode = true) :
    s.captureLate = { s with level := s.level.capturedLate } := by
  by_cases captured : s.level.captured = true
  · rw [State.captureLate, Levelling.capturedLate_of_captured captured, if_neg (by simp [captured])]
  · rw [State.captureLate, if_pos (by simp [auto, captured]), Levelling.capturedLate, if_neg captured]
    cases (s.level.sensorOf s.level.mode).reading with
    | none => rfl
    | some v => rfl

/-! ## The causes and the condition (R88) -/

/-- The condition of a side from its causes, and a cut when it enters HOLD: FROZEN and SETTLING stay (R88). -/
theorem Levelling.settleCondition_rest (l : Levelling) (now : Nat) :
    l.settleCondition now =
      { l with
        condition :=
          if l.condition = .active ∨ l.condition = .hold then
            if l.causes = ⟨false, false, false⟩ then .active else .hold
          else l.condition
        driver := (l.settleCondition now).driver, redo := (l.settleCondition now).redo } := by
  rw [← Causes.condition_eq]
  by_cases free : l.condition = .active ∨ l.condition = .hold
  · by_cases any : l.causes.any = true
    · rcases free with active | hold
      · simp [Levelling.settleCondition, Levelling.cut, active, any]
      · simp [Levelling.settleCondition, hold, any]
        rw [← hold]
    · simp [Levelling.settleCondition, free, any]
  · simp [Levelling.settleCondition, free]

/-- A side that does not enter HOLD keeps its driver. -/
theorem Levelling.settleCondition_of_kept {l : Levelling} (now : Nat) (kept : l.condition ≠ .active ∨ l.causes.any = false) :
    (l.settleCondition now).driver = l.driver ∧ (l.settleCondition now).redo = l.redo := by
  by_cases active : l.condition = .active
  · have free := kept.resolve_left (not_not.2 active)
    simp [Levelling.settleCondition, active, free]
  · by_cases hold : l.condition = .hold
    · cases any : l.causes.any <;> simp [Levelling.settleCondition, hold, any]
    · simp [Levelling.settleCondition, active, hold]

/-! ## The period start up to the control law -/

section
variable (s : State)

/-- The state with its valve period run on (R90). -/
def State.periodTimed : State :=
  { s with level := { s.level with periodTimer := s.level.periodTimer.map (· + Config.valvePeriod) } }

theorem State.startPeriod_eq : s.startPeriod = s.periodTimed.applyLevelPage.captureLate.judgeSide.runControlLaw := rfl

/-- The side with its page applied, its reference captured late and its partner chosen. -/
def State.levelChosen : Levelling := { s.levelPaged.capturedLate with partner := s.partnerSlot.map (·.1) }

/-- The hold causes judged at a period start. -/
def State.causesJudged : Causes := s.levelChosen.judge (s.partnerSlot.map (·.2.mode))

/-- The side as the control law of a period finds it. -/
def State.levelJudged : Levelling := ({ s.levelChosen with causes := s.causesJudged } : Levelling).settleCondition s.now

end

section
variable {s : State}

theorem State.startPeriod_of_auto (auto : isAuto s.level.mode = true) :
    ∃ due,
      s.startPeriod = ({ s with level := s.levelJudged, sup := { s.sup with offerDue := due } } : State).runControlLaw := by
  obtain ⟨due, applied⟩ := s.periodTimed.applyLevelPage_cases
  replace applied : s.periodTimed.applyLevelPage = { s with level := s.levelPaged, sup := { s.sup with offerDue := due } } := applied
  have captured :=
    State.captureLate_of_auto (s := { s with level := s.levelPaged, sup := { s.sup with offerDue := due } }) auto
  have judged :
      State.judgeSide
          { s with level := s.levelPaged.capturedLate, sup := { s.sup with offerDue := due } } =
        { s with level := s.levelJudged, sup := { s.sup with offerDue := due } } := by
    rw [State.judgeSide, if_pos]
    · rfl
    · rw [Levelling.capturedLate_rest]
      exact auto
  refine ⟨due, ?_⟩
  rw [s.startPeriod_eq, applied, captured, judged]

/-- Outside AUTO a period start chooses the partner and no more. -/
theorem State.startPeriod_of_not_auto (off : isAuto s.level.mode = false) (applied : s.level.pending = false) :
    s.startPeriod =
      { s with
        level := { s.level with periodTimer := s.level.periodTimer.map (· + 1000), partner := s.partnerSlot.map (·.1) } } := by
  rw [s.startPeriod_eq, State.applyLevelPage_of_not_pending (s := s.periodTimed) applied]
  replace off : isAuto s.periodTimed.level.mode = false := off
  simp only [State.captureLate, State.judgeSide, State.runControlLaw, off, Bool.false_and, Bool.false_eq_true, if_false]
  rfl

theorem State.levelChosen_rest (s : State) :
    s.levelChosen =
      { s.levelPaged with
        gradeRef := s.levelPaged.capturedLate.gradeRef, slopeRef := s.levelPaged.capturedLate.slopeRef
        captured := s.levelPaged.capturedLate.captured, partner := s.partnerSlot.map (·.1) } := by
  rw [State.levelChosen, Levelling.capturedLate_rest]

/-- What the side holds when the control law is run: only the driver and the mark of a move rest on the change of condition. -/
theorem State.levelJudged_rest (s : State) :
    s.levelJudged =
      { s.levelPaged with
        gradeRef := s.levelPaged.capturedLate.gradeRef, slopeRef := s.levelPaged.capturedLate.slopeRef
        captured := s.levelPaged.capturedLate.captured, partner := s.partnerSlot.map (·.1), causes := s.causesJudged
        condition :=
          if s.level.condition = .active ∨ s.level.condition = .hold then
            if s.causesJudged = ⟨false, false, false⟩ then .active else .hold
          else s.level.condition
        driver := s.levelJudged.driver, redo := s.levelJudged.redo } := by
  have settled := ({ s.levelChosen with causes := s.causesJudged } : Levelling).settleCondition_rest s.now
  rw [s.levelChosen_rest] at settled
  rw [State.levelJudged, s.levelChosen_rest]
  exact settled

theorem State.levelJudged_kept (kept : s.level.condition ≠ .active ∨ s.causesJudged.any = false) :
    s.levelJudged.driver = s.level.driver ∧ s.levelJudged.redo = s.level.redo := by
  have chosen : s.levelChosen.condition = s.level.condition ∧ s.levelChosen.driver = s.level.driver ∧
      s.levelChosen.redo = s.level.redo := by
    rw [s.levelChosen_rest]
    exact ⟨rfl, rfl, rfl⟩
  obtain ⟨condition, driver, redo⟩ := chosen
  have settled :=
    Levelling.settleCondition_of_kept (l := { s.levelChosen with causes := s.causesJudged }) s.now (by rwa [condition])
  exact ⟨settled.1.trans driver, settled.2.trans redo⟩

/-- A side that enters HOLD takes a cut: no move is under way. -/
theorem State.levelJudged_redo_of_hold (active : s.level.condition = .active) (cause : s.causesJudged.any = true) :
    s.levelJudged.redo = false := by
  have condition : s.levelChosen.condition = .active := by
    rw [s.levelChosen_rest]
    exact active
  rw [State.levelJudged, Levelling.settleCondition_of_cause_in_active (l := { s.levelChosen with causes := s.causesJudged })
    s.now condition cause]
  rfl

theorem State.levelJudged_redo (free : s.level.redo = false) : s.levelJudged.redo = false := by
  by_cases kept : s.level.condition ≠ .active ∨ s.causesJudged.any = false
  · exact (State.levelJudged_kept kept).2.trans free
  · push Not at kept
    exact State.levelJudged_redo_of_hold kept.1 (by simpa using kept.2)

end

/-! ## The control law (R93) -/

section
variable {s : State}

theorem State.runControlLaw_rest (s : State) :
    s.runControlLaw = { s with level := { s.level with driver := s.runControlLaw.level.driver } } := by
  unfold State.runControlLaw
  split_ifs
  · rfl
  · rfl

theorem State.runControlLaw_of_law (auto : isAuto s.level.mode = true) (free : s.level.redo = false) :
    s.runControlLaw.level.driver =
      (match s.controlLaw with
        | some r => s.level.driver.request r s.level.deadTime s.now
        | none => s.level.driver.neutralRequest s.level.deadTime s.now) :=
  congrArg (fun u : State => u.level.driver) (if_pos (by simp [auto, free]))

/-- A side that is not ACTIVE, RUN and PAVING asks for no pulse. -/
theorem State.controlLaw_of_still (still : s.sup.station ≠ .run ∨ s.level.condition ≠ .active ∨ s.travel.state ≠ .paving) :
    s.controlLaw = none := by
  rw [State.controlLaw, if_neg]
  simp only [Bool.and_eq_true, beq_iff_eq, not_and]
  intro ⟨run, active⟩ paving
  exact still.elim (· run) fun still => still.elim (· active) (· paving)

theorem State.runControlLaw_of_still (auto : isAuto s.level.mode = true) (free : s.level.redo = false)
    (still : s.sup.station ≠ .run ∨ s.level.condition ≠ .active ∨ s.travel.state ≠ .paving) :
    s.runControlLaw.level.driver.energised = none := by
  rw [State.runControlLaw_of_law auto free, State.controlLaw_of_still still]
  exact Driver.neutralRequest_energised ..

/-- The control law of an ACTIVE side in RUN and PAVING with a page and a reading (R93). -/
theorem State.controlLaw_of_active {page : LevelPage} {v : Int} (run : s.sup.station = .run)
    (active : s.level.condition = .active) (paving : s.travel.state = .paving) (applied : s.level.page = some page)
    (reading : (s.level.sensorOf s.level.mode).last = some v) :
    s.controlLaw =
      (let e := s.level.referenceOf s.level.mode - v
       let deadband := if s.level.mode = .autoSlope then page.slopeDeadband else page.gradeDeadband
       let gain := if s.level.mode = .autoSlope then page.slopeGain else page.gradeGain
       if e.natAbs ≤ deadband then none
       else
         some
           ⟨if 0 < e then .raise else .lower, .auto,
             .until (s.now + 10 * min 100 (page.minPulse + gain * (e.natAbs - deadband) / 10))⟩) := by
  simp only [State.controlLaw, run, active, paving, applied, reading]
  by_cases slope : s.level.mode = .autoSlope
  · simp [slope, pulsePercent, Config.ms]
  · simp [slope, pulsePercent, Config.ms]

theorem Levelling.deadTime_of_page {l : Levelling} {page : LevelPage} (applied : l.page = some page) :
    l.deadTime = 10 * page.deadTime := by
  rw [Levelling.deadTime_eq, applied]

end

/-- Settles O34: the fields of the side judged, the partner along the stations, and the driver by the control law. -/
theorem periodStartRunsControlLaw : Obligations.PeriodStartRunsControlLaw := by
  unfold Obligations.PeriodStartRunsControlLaw
  refine ⟨?judged, ?lowest, ?still, ?manual⟩
  case judged =>
    intro s d page sensor partner running timer reached auto page_eq sensor_eq partner_eq
    refine State.takeExpiry_reaches running timer reached State.startPeriod fun t same => ?_
    obtain ⟨due, started⟩ := State.startPeriod_of_auto auto
    rw [started] at same
    have paged : s.levelPaged.page = page := page_eq.symm
    have sensorOf : s.levelPaged.sensorOf s.levelPaged.mode = sensor :=
      (s.levelPaged.sensorOf_eq s.level.mode).trans sensor_eq.symm
    have chosen : s.levelChosen.sensorOf s.levelChosen.mode = sensor ∧ s.levelChosen.mode = s.level.mode ∧
        s.levelChosen.captured = s.levelPaged.capturedLate.captured := by
      rw [s.levelChosen_rest]
      exact ⟨sensorOf, rfl, rfl⟩
    obtain ⟨chosenSensor, chosenMode, chosenCaptured⟩ := chosen
    have judged := s.levelJudged_rest
    have side : t.level =
        { s.levelJudged with
          driver :=
            (({ s with level := s.levelJudged, sup := { s.sup with offerDue := due } } : State).runControlLaw).level.driver } := by
      rw [same.level, State.runControlLaw_rest]
    have mode : s.levelJudged.mode = s.level.mode := by rw [judged]; rfl
    have judgedAuto : isAuto s.levelJudged.mode = true := by rw [mode]; exact auto
    have causes : s.levelJudged.causes = s.causesJudged := by rw [judged]
    have condition := congrArg Levelling.condition judged
    rw [side]
    refine ⟨?timer, ?page, ?pending, mode, ?partner, ?late, ?kept, ?sensor, ?conflict, ?partners, ?condition, ?hold, ?law⟩
    case timer => rw [judged]; exact congrArg (Option.map (· + 1000)) timer
    case page => rw [judged]; exact paged
    case pending => rw [judged]; rfl
    case partner => rw [judged]
    case late =>
      intro v uncaptured valid last
      rw [judged]
      have reading := Sensor.reading_of_valid valid last
      rw [← sensorOf] at reading
      rw [Levelling.capturedLate_of_reading (l := s.levelPaged) uncaptured reading]
      exact ⟨rfl, Levelling.setReference_gradeRef _ s.level.mode v, Levelling.setReference_slopeRef _ s.level.mode v⟩
    case kept =>
      intro kept
      rw [judged]
      have unchanged : s.levelPaged.capturedLate = s.levelPaged := by
        rcases kept with captured | fault
        · exact Levelling.capturedLate_of_captured captured
        · exact Levelling.capturedLate_of_none (by rw [sensorOf]; exact Sensor.reading_of_fault fault)
      rw [unchanged]
      exact ⟨rfl, rfl, rfl⟩
    case sensor =>
      have captured : s.levelJudged.captured = s.levelChosen.captured := by rw [judged, chosenCaptured]
      dsimp only
      rw [causes, captured, State.causesJudged, Levelling.judge_sensor_iff, chosenSensor]
    case conflict =>
      dsimp only
      rw [causes, State.causesJudged, Levelling.judge_conflict_iff, chosenMode, partner_eq]
    case partners =>
      dsimp only
      rw [causes, State.causesJudged, Levelling.judge_partner_iff, chosenMode, partner_eq]
    case condition =>
      dsimp only
      rw [causes]
      exact condition
    case hold =>
      intro active hold
      have cause : s.causesJudged.any = true := by
        by_contra free
        rw [Bool.not_eq_true] at free
        rw [(Causes.any_eq_false_iff _).1 free, active] at condition
        exact nomatch hold.symm.trans condition
      have free := State.levelJudged_redo_of_hold active cause
      exact ⟨State.runControlLaw_of_still (s := { s with level := s.levelJudged, sup := { s.sup with offerDue := due } })
        judgedAuto free (.inr (.inl fun active => nomatch hold.symm.trans active)), free⟩
    case law =>
      intro p v active free run paving given last
      have kept : s.level.condition ≠ .active ∨ s.causesJudged.any = false := by
        by_contra entered
        push Not at entered
        obtain ⟨was, cause⟩ := entered
        have filled : s.causesJudged ≠ ⟨false, false, false⟩ := fun none => cause ((Causes.any_eq_false_iff _).2 none)
        rw [if_pos (.inl was), if_neg filled] at condition
        exact nomatch active.symm.trans condition
      obtain ⟨driver, redo⟩ := State.levelJudged_kept kept
      have applied : s.levelJudged.page = some p := by
        rw [judged]
        exact paged.trans given
      have reading : (s.levelJudged.sensorOf s.levelJudged.mode).last = some v := by
        rw [judged]
        exact (congrArg Sensor.last sensorOf).trans last
      dsimp only at active ⊢
      rw [State.runControlLaw_of_law (s := { s with level := s.levelJudged, sup := { s.sup with offerDue := due } })
          judgedAuto (redo.trans free),
        State.controlLaw_of_active (s := { s with level := s.levelJudged, sup := { s.sup with offerDue := due } })
          run active paving applied reading]
      dsimp only
      rw [driver, Levelling.deadTime_of_page applied, Levelling.referenceOf_eq, mode]
      split_ifs <;> rfl
  case lowest =>
    intro s n c
    rw [s.partnerSlot_iff, s.partnerContent_eq_some_iff, and_assoc]
    refine and_congr_right fun _ => and_congr_right fun _ => forall_congr' fun m => ?_
    rw [s.partnerContent_eq_none_iff]
    exact ⟨fun lower other since less => lower less other since, fun lower less other since => lower other since less⟩
  case still =>
    intro s d running timer reached auto free still
    refine State.takeExpiry_reaches running timer reached State.startPeriod fun t same => ?_
    obtain ⟨due, started⟩ := State.startPeriod_of_auto auto
    have judged := s.levelJudged_rest
    have mode : s.levelJudged.mode = s.level.mode := by rw [judged]; rfl
    have coil := State.runControlLaw_of_still
      (s := { s with level := s.levelJudged, sup := { s.sup with offerDue := due } }) (by rw [mode]; exact auto)
      (State.levelJudged_redo free) (still.elim (fun travel => .inr (.inr travel)) .inl)
    rw [started] at same
    rw [same.level]
    refine ⟨?_, coil, ?_, ?_, ?_, ?_, ?_, ?_, ?_, ?_⟩
    · rw [State.runControlLaw_rest, judged]
      exact congrArg (Option.map (· + 1000)) timer
    · rw [State.runControlLaw_rest]
      exact mode
    · rw [same.travel, State.runControlLaw_rest]
    · rw [same.heat, State.runControlLaw_rest]
    · rw [same.load, State.runControlLaw_rest]
    · rw [same.feed, State.runControlLaw_rest]
    · rw [same.rows, State.runControlLaw_rest]
    · rw [same.ring, State.runControlLaw_rest]
    · rw [same.settings, State.runControlLaw_rest]
  case manual =>
    intro s d running timer reached off applied
    refine State.takeExpiry_reaches running timer reached State.startPeriod fun t same => ?_
    rw [State.startPeriod_of_not_auto off applied, timer] at same
    exact same

end Sys2Proof.Machine
end

section
/-! PROOFS. The return to PAVING and the settle that follows (R108 to R111, R113): the forward centimetre by which they come, and what
the settle end makes of the reference, the condition and the pending move. -/

namespace Sys2Proof.Machine

/-! ## A forward centimetre -/

/-- The chainage and the travel state after the forward pulse that completes a centimetre (R24, R28, R29). -/
theorem Travel.step_centimetre {t : Travel} {page : TravelPage} (now : Nat) (calibrated : t.page = some page)
    (third : t.steps = 3) (full : page.pulsesPerMetre ≤ t.remainder + 100) (below : t.chainage < 2147483647) :
    (t.step true now).chainage = t.chainage + 1 ∧ (t.step true now).state = (t.ruled (t.chainage + 1) 0 true).1 := by
  have moved : (pulsed true t.remainder t.chainage page.pulsesPerMetre).2 = t.chainage + 1 := by
    unfold pulsed forwardPulse Config.maxChainage
    rw [if_pos rfl, if_neg (by omega), if_neg (by omega)]
  rw [Travel.step_of_calibrated now calibrated (by simpa using third), moved,
    Travel.moveTo_eq_ruled (t := t.counted true page) calibrated (by simp [Travel.counted]) now]
  exact ⟨rfl, Travel.ruled_state ..⟩

/-- The state after the change that completes a forward pulse, in which the travel record is `u`. -/
theorem exec_encoderChange_forward {s : State} (running : s.phase = .running) (encoder : s.straps.encoder = true)
    {P : State → Prop}
    (hP : ∀ t, State.SameButStatus
      ((s.withPair (s.pins.encoder + 1)).setTravel (s.travel.step true s.now) false) t → P t) :
    ∃ t, exec (.encoderChange (s.pins.encoder + 1)) s = .next t ∧ P t := by
  refine exec_encoderChange_reaches running (steppedPair true s.pins.encoder) fun t same => hP t ?_
  rwa [State.encoderChanged_stepped encoder] at same

section
variable {s : State} {u : Travel}

theorem State.setTravel_level_of_return (fitted : s.levelling = true) (was : s.travel.state ≠ .paving)
    (paving : u.state = .paving) :
    (s.setTravel u false).level = (State.returnToPaving { s with travel := u }).level := by
  have levels : State.levelling { s with travel := u } = true := fitted
  rw [State.setTravel_level, State.travelToLevel, if_pos levels, if_neg (by simp [was]), if_pos (by simp [was, paving])]

theorem State.setTravel_level_of_paving (was : s.travel.state = .paving) (paving : u.state = .paving)
    (moves : u.chainage ≠ s.travel.chainage) :
    (s.setTravel u false).level =
      if s.levelling then (State.testSettle { s with travel := u }).level else s.level := by
  rw [State.setTravel_level, State.travelToLevel]
  by_cases fitted : s.levelling = true
  · have levels : State.levelling { s with travel := u } = true := fitted
    rw [if_pos levels, if_neg (by simp [paving]), if_neg (by simp [was]), if_pos (by simpa using Ne.symm moves), if_pos fitted]
  · have levels : ¬State.levelling { s with travel := u } = true := fitted
    rw [if_neg levels, if_neg fitted]

theorem State.testSettle_of_short {mark : Nat} (settling : s.level.condition = .settling)
    (set : s.level.settleMark = some mark) (short : s.travel.chainage < mark + s.level.settleDistance) :
    s.testSettle = s := by
  rw [State.testSettle, settling, set]
  exact if_neg (by omega)

theorem State.testSettle_of_reached {mark : Nat} (settling : s.level.condition = .settling)
    (set : s.level.settleMark = some mark) (reached : mark + s.level.settleDistance ≤ s.travel.chainage) :
    s.testSettle = { s with level := s.level.settleEnd s.now } := by
  rw [State.testSettle, settling, set]
  exact if_pos reached

end

/-! ## The settle end -/

section
variable {l : Levelling}

theorem Levelling.resumeReference_of_capture (captures : l.settleCapture = true ∨ l.policy = .current) :
    l.resumeReference = l.capture := by
  by_cases capturing : l.settleCapture = true
  · rw [Levelling.resumeReference, if_pos capturing]
  · rw [Levelling.resumeReference, if_neg capturing, captures.resolve_left capturing]

theorem Levelling.resumeReference_of_saved (idle : l.settleCapture = false) (saved : l.policy = .saved) :
    l.resumeReference =
      match l.resume.bind (·.reference) with
      | some v => { l.setReference l.mode v with captured := true }
      | none => l := by
  rw [Levelling.resumeReference, if_neg (by simp [idle]), saved] <;> rfl

/-- The settle end's reference touches the references and whether they are captured, and nothing else (R109). -/
theorem Levelling.resumeReference_rest (l : Levelling) :
    l.resumeReference =
      { l with
        gradeRef := l.resumeReference.gradeRef, slopeRef := l.resumeReference.slopeRef
        captured := l.resumeReference.captured } := by
  by_cases captures : l.settleCapture = true ∨ l.policy = .current
  · rw [Levelling.resumeReference_of_capture captures]
    exact l.capture_rest
  · have idle : l.settleCapture = false := by simpa using fun h => captures (.inl h)
    have saved : l.policy = .saved := by
      cases policy : l.policy with
      | saved => rfl
      | current => exact absurd (.inr policy) captures
    rw [Levelling.resumeReference_of_saved idle saved]
    cases l.resume.bind (·.reference) with
    | none => rfl
    | some v => dsimp only; rw [Levelling.setReference_rest]

theorem Levelling.resumeCondition_of_none (now : Nat) (none : l.causes = ⟨false, false, false⟩) :
    l.resumeCondition now = { l with condition := .active } := by
  rw [Levelling.resumeCondition, if_neg]
  rw [(Causes.any_eq_false_iff _).2 none]
  exact Bool.false_ne_true

theorem Levelling.resumeCondition_of_cause (now : Nat) (cause : l.causes ≠ ⟨false, false, false⟩) :
    l.resumeCondition now = { l.cut now with condition := .hold } :=
  if_pos (by simpa using fun none => cause ((Causes.any_eq_false_iff _).1 none))

/-- The settle end's condition touches the driver and the mark of a move besides (R111). -/
theorem Levelling.resumeCondition_rest (l : Levelling) (now : Nat) :
    l.resumeCondition now =
      { l with
        condition := if l.causes = ⟨false, false, false⟩ then .active else .hold
        driver := (l.resumeCondition now).driver, redo := (l.resumeCondition now).redo } := by
  by_cases none : l.causes = ⟨false, false, false⟩
  · rw [Levelling.resumeCondition_of_none now none, if_pos none]
  · rw [Levelling.resumeCondition_of_cause now none, if_neg none]
    rfl

/-- The pending move touches the driver and its own mark alone (R110). -/
theorem Levelling.resumeMove_rest (l : Levelling) (capturing : Bool) (now : Nat) :
    l.resumeMove capturing now =
      { l with driver := (l.resumeMove capturing now).driver, redo := (l.resumeMove capturing now).redo } := by
  unfold Levelling.resumeMove
  cases l.resume.bind (·.move) with
  | none => rfl
  | some move =>
    dsimp only
    split_ifs
    · rfl
    · rfl

/-- A side in HOLD issues no pending move (R110). -/
theorem Levelling.resumeMove_of_hold (capturing : Bool) (now : Nat) (hold : l.condition = .hold) :
    l.resumeMove capturing now = l := by
  unfold Levelling.resumeMove
  cases l.resume.bind (·.move) with
  | none => rfl
  | some move => simp [hold]

theorem Levelling.resumeMove_of_redo {direction : Direction} {n : Nat} (now : Nat)
    (move : l.resume.bind (·.move) = some (direction, n)) (saved : l.policy = .saved) (redo : l.choice = .redo)
    (active : l.condition = .active) :
    l.resumeMove false now =
      { l with driver := l.driver.request ⟨direction, .auto, .length (10 * n)⟩ l.deadTime now, redo := true } := by
  rw [Levelling.resumeMove, move]
  exact if_pos (by simp [saved, redo, active])

end

/-- The side at the settle end with its reference and its condition set, before a pending move is issued. -/
def Levelling.resumed (l : Levelling) (now : Nat) : Levelling := l.resumeReference.resumeCondition now

section
variable (l : Levelling) (now : Nat)

theorem Levelling.resumed_rest :
    l.resumed now =
      { l with
        gradeRef := l.resumeReference.gradeRef, slopeRef := l.resumeReference.slopeRef
        captured := l.resumeReference.captured
        condition := if l.causes = ⟨false, false, false⟩ then .active else .hold
        driver := (l.resumed now).driver, redo := (l.resumed now).redo } := by
  have reference := l.resumeReference_rest
  have condition := l.resumeReference.resumeCondition_rest now
  rw [reference] at condition
  rw [Levelling.resumed, reference]
  exact condition

/-- What the settle end leaves: reference and condition by R109 and R111, record, mark and capture gone, and the driver as the cut or
the pending move leaves it. -/
theorem Levelling.settleEnd_rest :
    l.settleEnd now =
      { l with
        gradeRef := l.resumeReference.gradeRef, slopeRef := l.resumeReference.slopeRef
        captured := l.resumeReference.captured
        condition := if l.causes = ⟨false, false, false⟩ then .active else .hold
        resume := none, settleCapture := false, settleMark := none
        driver := ((l.resumed now).resumeMove l.settleCapture now).driver
        redo := ((l.resumed now).resumeMove l.settleCapture now).redo } := by
  have resumed := l.resumed_rest now
  have moved := (l.resumed now).resumeMove_rest l.settleCapture now
  have ended : l.settleEnd now =
      { (l.resumed now).resumeMove l.settleCapture now with
        resume := none, settleCapture := false, settleMark := none } := rfl
  rw [ended, moved, resumed]

end

section
variable {l : Levelling} {now : Nat}

theorem Levelling.settleEnd_of_cause (cause : l.causes ≠ ⟨false, false, false⟩) :
    (l.settleEnd now).driver.energised = none ∧ (l.settleEnd now).redo = false := by
  have causes : l.resumeReference.causes ≠ ⟨false, false, false⟩ := by
    rw [l.resumeReference_rest]
    exact cause
  have resumed : l.resumed now = { l.resumeReference.cut now with condition := .hold } :=
    Levelling.resumeCondition_of_cause now causes
  have held : (l.resumed now).resumeMove l.settleCapture now = l.resumed now :=
    Levelling.resumeMove_of_hold _ _ (congrArg Levelling.condition resumed)
  rw [l.settleEnd_rest, held, resumed]
  exact ⟨Levelling.cut_energised _ now, rfl⟩

theorem Levelling.settleEnd_of_redo {r : ResumeRecord} {direction : Direction} {n : Nat} (record : l.resume = some r)
    (move : r.move = some (direction, n)) (saved : l.policy = .saved) (redo : l.choice = .redo)
    (idle : l.settleCapture = false) (free : l.causes = ⟨false, false, false⟩) :
    (l.settleEnd now).redo = true ∧
      (l.settleEnd now).driver = l.driver.request ⟨direction, .auto, .length (10 * n)⟩ l.deadTime now := by
  have causes : l.resumeReference.causes = ⟨false, false, false⟩ := by
    rw [l.resumeReference_rest]
    exact free
  have resumed : l.resumed now =
      { l with
        gradeRef := l.resumeReference.gradeRef, slopeRef := l.resumeReference.slopeRef
        captured := l.resumeReference.captured, condition := .active } := by
    rw [Levelling.resumed, Levelling.resumeCondition_of_none now causes, l.resumeReference_rest]
  have moved := Levelling.resumeMove_of_redo (l := l.resumed now) now (direction := direction) (n := n)
    (by rw [resumed, record]; exact move) (by rw [resumed]; exact saved) (by rw [resumed]; exact redo) (by rw [resumed])
  rw [l.settleEnd_rest, idle, moved, resumed]
  exact ⟨rfl, rfl⟩

/-- The reference at a settle end that captures (R109). -/
theorem Levelling.resumeReference_captured {v : Int} (captures : l.settleCapture = true ∨ l.policy = .current)
    (reading : (l.sensorOf l.mode).reading = some v) :
    l.resumeReference = { l.setReference l.mode v with captured := true } := by
  rw [Levelling.resumeReference_of_capture captures, Levelling.capture_of_reading reading]

theorem Levelling.resumeReference_recorded {r : ResumeRecord} {v : Int} (idle : l.settleCapture = false)
    (saved : l.policy = .saved) (record : l.resume = some r) (reference : r.reference = some v) :
    l.resumeReference = { l.setReference l.mode v with captured := true } := by
  rw [Levelling.resumeReference_of_saved idle saved, record, Option.bind_some, reference]

theorem Levelling.resumeReference_kept (idle : l.settleCapture = false) (saved : l.policy = .saved)
    (absent : ∀ r, l.resume = some r → r.reference = none) : l.resumeReference = l := by
  rw [Levelling.resumeReference_of_saved idle saved]
  cases record : l.resume with
  | none => rfl
  | some r => rw [Option.bind_some, absent r record]

theorem Levelling.setReference_at (l : Levelling) (m : SideMode) (v : Int) :
    (if m = .autoSlope then (l.setReference m v).slopeRef else (l.setReference m v).gradeRef) = v := by
  by_cases slope : m = .autoSlope
  · rw [if_pos slope, Levelling.setReference_slopeRef, if_pos slope]
  · rw [if_neg slope, Levelling.setReference_gradeRef, if_neg slope]

end

theorem Travel.ruled_of_paving {t : Travel} {c : Nat} (stop : Nat) (rises : Bool) (paving : t.state = .paving)
    (onward : t.mark ≤ c) : (t.ruled c stop rises).1 = .paving := by
  rw [Travel.ruled, paving]
  dsimp only
  rw [if_neg (by omega)]

theorem Travel.ruled_of_return {t : Travel} {c : Nat} (stop : Nat) (rises : Bool)
    (away : t.state = .stopped ∨ t.state = .reversing) (ahead : t.mark + 5 ≤ c) : (t.ruled c stop rises).1 = .paving := by
  rcases away with stopped | reversing
  · rw [Travel.ruled, stopped]
    dsimp only
    rw [if_pos ahead]
  · rw [Travel.ruled, reversing]
    dsimp only
    rw [if_pos ahead]

/-- Settles O38: the centimetre that returns to PAVING, one short of the settle distance, and the one that completes the settle. -/
theorem settleEndResumesSide : Obligations.SettleEndResumesSide := by
  unfold Obligations.SettleEndResumesSide
  refine ⟨?returns, ?short, ?settles⟩
  case returns =>
    intro s page running encoder fitted calibrated third full below away ahead frozen
    obtain ⟨chainage, state⟩ := Travel.step_centimetre s.now calibrated third full below
    rw [Travel.ruled_of_return 0 true away ahead] at state
    refine exec_encoderChange_forward running encoder fun t same => ⟨?_, ?_⟩
    · rw [same.travel, State.setTravel_travel, state]
    · have was : s.travel.state ≠ .paving := by
        rcases away with stopped | reversing
        · simp [stopped]
        · simp [reversing]
      rw [same.level, State.setTravel_level_of_return (s := s.withPair (s.pins.encoder + 1)) fitted was state, State.returnToPaving,
        if_pos (by simpa [State.withPair] using frozen), ← chainage]
      rfl
  case short =>
    intro s page mark running encoder calibrated third full below paving onward settling set short
    obtain ⟨chainage, state⟩ := Travel.step_centimetre s.now calibrated third full below
    rw [Travel.ruled_of_paving 0 true paving onward] at state
    refine exec_encoderChange_forward running encoder fun t same => ?_
    rw [same.level, State.setTravel_level_of_paving (s := s.withPair (s.pins.encoder + 1)) paving state (by rw [chainage]; simp [State.withPair]),
      State.testSettle_of_short (s := { s.withPair (s.pins.encoder + 1) with travel := s.travel.step true s.now }) settling set
        (by dsimp only; rw [chainage]; exact short), ite_self]
    rfl
  case settles =>
    intro s page mark record running encoder fitted calibrated third full below paving onward settling set reached auto resume
      sensor policy choice sensor_eq page_eq
    obtain ⟨chainage, state⟩ := Travel.step_centimetre s.now calibrated third full below
    rw [Travel.ruled_of_paving 0 true paving onward] at state
    have policy_eq : s.level.policy = policy ∧ s.level.choice = choice := by
      cases given : s.level.page with
      | none =>
        rw [given] at page_eq
        simp [Levelling.policy, Levelling.choice, given, page_eq]
      | some page =>
        rw [given] at page_eq
        simp [Levelling.policy, Levelling.choice, given, page_eq]
    obtain ⟨rfl, rfl⟩ := policy_eq
    have sensorOf : s.level.sensorOf s.level.mode = sensor := (s.level.sensorOf_eq s.level.mode).trans sensor_eq.symm
    refine exec_encoderChange_forward running encoder fun t same => ?_
    have level : t.level = s.level.settleEnd s.now := by
      rw [same.level, State.setTravel_level_of_paving (s := s.withPair (s.pins.encoder + 1)) paving state (by rw [chainage]; simp [State.withPair]),
        State.testSettle_of_reached (s := { s.withPair (s.pins.encoder + 1) with travel := s.travel.step true s.now })
          settling set (by dsimp only; rw [chainage]; exact reached)]
      exact if_pos fitted
    have rest := s.level.settleEnd_rest s.now
    rw [level]
    refine ⟨by rw [rest], by rw [rest], by rw [rest], by rw [rest], by rw [rest], by rw [rest], ?reference, ?faulted, ?kept,
      ?move, fun cause => Levelling.settleEnd_of_cause cause⟩
    case reference =>
      intro v given
      have captured : s.level.resumeReference = { s.level.setReference s.level.mode v with captured := true } := by
        rcases given with ⟨captures, valid, last⟩ | ⟨idle, saved, r, found, reference⟩
        · exact Levelling.resumeReference_captured captures (by rw [sensorOf]; exact Sensor.reading_of_valid valid last)
        · exact Levelling.resumeReference_recorded idle saved (resume.trans found) reference
      rw [rest, captured]
      exact ⟨rfl, s.level.setReference_at s.level.mode v⟩
    case faulted =>
      rintro ⟨captures, fault⟩
      have reading : (s.level.sensorOf s.level.mode).reading = none := by rw [sensorOf]; exact Sensor.reading_of_fault fault
      rw [rest, Levelling.resumeReference_of_capture captures, Levelling.capture_of_none reading]
    case kept =>
      rintro ⟨idle, saved, absent⟩
      rw [rest, Levelling.resumeReference_kept idle saved fun r found => absent r (resume.symm.trans found)]
      exact ⟨rfl, rfl, rfl⟩
    case move =>
      intro r direction n found move saved redo idle free
      exact Levelling.settleEnd_of_redo (resume.trans found) move saved redo idle free

end Sys2Proof.Machine
end

section
/-! PROOFS. Sweeps and the scanner's silence (R133, R135, R137). -/

namespace Sys2Proof.Machine

theorem spotReading_eq (good : Bool) (v : Int) :
    spotReading good v = if good = true ∧ -20 ≤ v ∧ v ≤ 300 then some v else none := by
  cases good with
  | false => simp [spotReading]
  | true => simp [spotReading, readingWithin]

theorem Cell.add_of_room {c : Cell} (v : Int) (room : c.count < 65535) :
    c.add v = ⟨c.sum + v, c.count + 1, some (match c.minimum with | some m => min v m | none => v)⟩ := by
  cases minimum : c.minimum <;> simp [Cell.add, Config.maxCount, room, minimum]

section
variable {s : State}

theorem State.sweepCounts_iff (s : State) :
    s.sweepCounts = true ↔
      s.travel.state = .paving ∧ ∀ mark, s.rows.highWater = some mark → mark ≤ s.rows.lastChainage := by
  cases mark : s.rows.highWater <;> simp [State.sweepCounts, mark]

theorem OpenRow.seeShed_eq (r : OpenRow) (shed : Bool) :
    r.seeShed shed = { r with flags := { r.flags with shedSeen := r.flags.shedSeen || shed } } := by
  cases shed with
  | false => simp [OpenRow.seeShed]
  | true => simp [OpenRow.seeShed]

theorem State.sweptRow_of_counted (good : Bool) (spots : List Int) (r : OpenRow) (counts : s.sweepCounts = true) :
    s.sweptRow good spots r =
      { r.addSweep good spots s.travel.speed s.plateMean with
        flags := { r.flags with shedSeen := r.flags.shedSeen || s.shedIndication } } := by
  rw [State.sweptRow, if_pos counts]
  exact OpenRow.seeShed_eq _ _

theorem State.sweptRow_of_uncounted (good : Bool) (spots : List Int) (r : OpenRow) (uncounted : ¬s.sweepCounts = true) :
    s.sweptRow good spots r = { r with flags := { r.flags with shedSeen := r.flags.shedSeen || s.shedIndication } } := by
  rw [State.sweptRow, if_neg uncounted]
  exact OpenRow.seeShed_eq _ _

theorem State.takeSweep_of_powered (good : Bool) (spots : List Int) (scanner : s.straps.scanner = true)
    (powered : s.rows.scannerOn = true) :
    s.takeSweep good spots =
      { s with
        rows :=
          { s.rows with
            silence := if good then .running (s.now + 5000) else s.rows.silence
            openRow := s.rows.openRow.map (s.sweptRow good spots) } } := by
  rw [State.takeSweep, if_pos (by simp [scanner, powered])]
  rfl

theorem State.takeSweep_of_unpowered (good : Bool) (spots : List Int)
    (off : s.straps.scanner = false ∨ s.rows.scannerOn = false) : s.takeSweep good spots = s := by
  rw [State.takeSweep, if_neg (by simpa [← Bool.not_eq_true, imp_iff_not_or] using off)]

end

/-- Settles O44: the open row by whether the sweep counts, the silence timer, and its expiry. -/
theorem sweepsFillOpenRow : Obligations.SweepsFillOpenRow := by
  unfold Obligations.SweepsFillOpenRow
  refine ⟨?swept, ?closed, ?unpowered, ?silent⟩
  case swept =>
    intro s good spots r running scanner powered found
    have taken := State.take_sameButStatus running fun t => t.takeSweep good spots
    rw [State.takeSweep_of_powered good spots scanner powered, found] at taken
    refine ⟨_, s.sweptRow good spots r, rfl, taken, ?flags, ?counted, ?uncounted⟩
    case flags =>
      by_cases counts : s.sweepCounts = true
      · rw [State.sweptRow_of_counted good spots r counts]
      · rw [State.sweptRow_of_uncounted good spots r counts]
    case counted =>
      intro counts
      rw [State.sweptRow_of_counted good spots r (s.sweepCounts_iff.2 counts)]
      refine ⟨saturate_eq_min 65535 _, fun room => ⟨if_pos room, ?speed⟩, fun v room mean => ⟨?plateSum, ?plateCount⟩,
        fun i c v cell spot room => ?cell, rfl⟩
      case speed =>
        refine (saturate_eq_min 65535 _).trans ?_
        omega
      case plateSum =>
        simp only [OpenRow.addSweep, mean]
        exact if_pos room
      case plateCount =>
        simp only [OpenRow.addSweep, mean]
        refine (saturate_eq_min 65535 _).trans ?_
        omega
      case cell =>
        refine (addSpots_get good r.cells spots i c v cell spot).trans ?_
        rw [spotReading_eq]
        by_cases valid : good = true ∧ -20 ≤ v ∧ v ≤ 300
        · rw [if_pos valid, if_pos valid]
          exact congrArg some (Cell.add_of_room v room)
        · rw [if_neg valid, if_neg valid]
    case uncounted =>
      intro uncounted
      rw [State.sweptRow_of_uncounted good spots r (s.sweepCounts_iff.not.2 uncounted)]
  case closed =>
    intro s good spots running scanner powered closed
    refine State.take_reaches running (fun t => t.takeSweep good spots) fun t same => ?_
    rw [State.takeSweep_of_powered good spots scanner powered, closed] at same
    rw [show ({ s.rows with silence := if good then Silence.running (s.now + 5000) else s.rows.silence } : Rows) =
      { s.rows with silence := if good then Silence.running (s.now + 5000) else s.rows.silence, openRow := none } by
        rw [← closed]]
    exact same
  case unpowered =>
    intro s good spots running off
    refine State.take_reaches running (fun t => t.takeSweep good spots) fun t same => ?_
    rwa [State.takeSweep_of_unpowered good spots off] at same
  case silent =>
    intro s d running runs came
    have timer : s.rows.silence.timer = some d := by simp [Silence.timer, runs]
    refine State.takeExpiry_reaches running timer came State.scannerSilent fun t same => ⟨?_, same⟩
    rw [same.alarm]
    rfl

end Sys2Proof.Machine
end

section
/-! PROOFS. The row that a step closes (R139, R143 to R147, R153): what a row formed at a close holds, and what the Row Builder and the
ring are after it. -/

namespace Sys2Proof.Machine

/-! ## The content of a formed row (R143 to R146) -/

/-- The first of a group that passes is the one with the lowest number. -/
theorem Quad.find?_toList {α : Type} {w : Quad α} {q : α → Bool} :
    ∀ i : Fin 4, q (w.get i) = true → (∀ j < i, ¬q (w.get j) = true) → w.toList.find? q = some (w.get i)
  | 0, holds, _ => List.find?_cons_of_pos holds
  | 1, holds, lower => (List.find?_cons_of_neg (lower 0 (by decide))).trans (List.find?_cons_of_pos holds)
  | 2, holds, lower =>
    (List.find?_cons_of_neg (lower 0 (by decide))).trans <|
      (List.find?_cons_of_neg (lower 1 (by decide))).trans (List.find?_cons_of_pos holds)
  | 3, holds, lower =>
    (List.find?_cons_of_neg (lower 0 (by decide))).trans <|
      (List.find?_cons_of_neg (lower 1 (by decide))).trans <|
        (List.find?_cons_of_neg (lower 2 (by decide))).trans (List.find?_cons_of_pos holds)

theorem Quad.find?_toList_eq_none {α : Type} {w : Quad α} {q : α → Bool} (absent : ∀ i : Fin 4, ¬q (w.get i) = true) :
    w.toList.find? q = none :=
  (List.find?_cons_of_neg (absent 0)).trans <|
    (List.find?_cons_of_neg (absent 1)).trans <|
      (List.find?_cons_of_neg (absent 2)).trans (List.find?_cons_of_neg (absent 3))

/-- The tag of the lowest-numbered window that overlaps (R145). -/
theorem markTag_of_lowest {windows : Quad MarkWindow} {start length : Nat} {i : Fin 4}
    (covers : MarkWindow.Overlaps (windows.get i) start length)
    (lower : ∀ j < i, ¬MarkWindow.Overlaps (windows.get j) start length) :
    markTag windows start length = (windows.get i).tag := by
  rw [markTag, Quad.find?_toList (q := fun w => windowOverlaps w start length) i ((windowOverlaps_iff _ _ _).2 covers)
    fun j less => (windowOverlaps_iff _ _ _).not.2 (lower j less)]

theorem markTag_of_none {windows : Quad MarkWindow} {start length : Nat}
    (absent : ∀ i, ¬MarkWindow.Overlaps (windows.get i) start length) : markTag windows start length = 0 := by
  rw [markTag, Quad.find?_toList_eq_none (q := fun w => windowOverlaps w start length)
    fun i => (windowOverlaps_iff _ _ _).not.2 (absent i)]

theorem State.screedHeight_eq (s : State) :
    s.screedHeight = if s.levelling = true ∧ s.level.grade.fault = false then s.level.grade.last else none := by
  cases fitted : s.levelling <;> cases fault : s.level.grade.fault <;> simp [State.screedHeight, Sensor.reading, fitted, fault]

section
variable (s : State) (r : OpenRow) (page : RecordPage) (cause : CloseCause) (length : Nat)

theorem State.formRow_cells :
    (s.formRow r page cause length).cells = (r.cells.take ((16 * s.width + s.straps.maxWidth - 1) / s.straps.maxWidth)).map (·.mean) :=
  rfl

theorem State.formRow_cells_length :
    (s.formRow r page cause length).cells.length =
      min ((16 * s.width + s.straps.maxWidth - 1) / s.straps.maxWidth) r.cells.length := by
  rw [State.formRow_cells, List.length_map, List.length_take]

theorem State.formRow_cell {i : Nat} {cell : Cell} (inside : i < (s.formRow r page cause length).cells.length)
    (here : r.cells[i]? = some cell) : (s.formRow r page cause length).cells[i]? = some cell.mean := by
  rw [State.formRow_cells_length] at inside
  rw [State.formRow_cells, List.getElem?_map, List.getElem?_take_of_lt (by omega), here, Option.map_some]

theorem State.formRow_minimum_iff (m : Int) :
    (s.formRow r page cause length).minimum = some m ↔
      (∃ cell, r.Present s.width s.straps.maxWidth cell ∧ cell.minimum = some m) ∧
        ∀ cell v, r.Present s.width s.straps.maxWidth cell → cell.minimum = some v → m ≤ v :=
  (lowestMinimum_eq_some_iff _ m).trans <|
    and_congr_right fun _ => forall_congr' fun _ => ⟨fun least v held => least held v, fun least held v => least v held⟩

theorem State.formRow_stopped :
    (s.formRow r page cause length).stopped = min 65535 (r.stoppedFor s.now / 10000) := saturate_eq_min _ _

/-- What a row formed at a close rests on: the station, the clock and the grade sensor, and the row itself. -/
theorem State.formRow_congr {s t : State} (r : OpenRow) (page : RecordPage) (cause : CloseCause) (length : Nat)
    (identity : t.identity = s.identity) (now : t.now = s.now) (grade : t.level.grade = s.level.grade) :
    t.formRow r page cause length = s.formRow r page cause length := by
  unfold State.formRow State.screedHeight State.levelling State.width State.straps
  rw [identity, now, grade]

end

/-! ## The edge (R147) -/

section
variable (rows : Rows)

theorem Rows.judgeEdge_cold :
    rows.judgeEdge true =
      { rows with
        coldRun := min 3 (rows.coldRun + 1), warmRun := 0
        edgeCold := rows.edgeCold || decide (3 ≤ rows.coldRun + 1) } := by
  by_cases third : 3 ≤ rows.coldRun + 1
  · simp [Rows.judgeEdge, third]
  · simp [Rows.judgeEdge, third]

theorem Rows.judgeEdge_warm :
    rows.judgeEdge false =
      { rows with
        warmRun := min 3 (rows.warmRun + 1), coldRun := 0
        edgeCold := rows.edgeCold && decide (rows.warmRun + 1 < 3) } := by
  by_cases third : 3 ≤ rows.warmRun + 1
  · simp [Rows.judgeEdge, third, show ¬rows.warmRun + 1 < 3 by omega]
  · simp [Rows.judgeEdge, third, show rows.warmRun + 1 < 3 by omega]

theorem Rows.judgeEdge_rest (cold : Bool) :
    rows.judgeEdge cold =
      { rows with
        coldRun := (rows.judgeEdge cold).coldRun, warmRun := (rows.judgeEdge cold).warmRun
        edgeCold := (rows.judgeEdge cold).edgeCold } := by
  cases cold <;> rfl

end

/-! ## The close at the end of a row (R139, R146) -/

section
variable {s : State} {r : OpenRow} {page : RecordPage}

/-- The Row Builder with the row closed at its end: both marks at that end, the edge judged, and no row open. -/
def Rows.closedAt (rows : Rows) (r : OpenRow) (cold : Bool) : Rows :=
  { (rows.marked r.finish r.finish).judgeEdge cold with openRow := none }

/-- The state after a STEP close and before the next row is tested for. -/
def State.stepClosed (s : State) (r : OpenRow) (page : RecordPage) : State :=
  { s.commitRow (s.formRow r page .step (r.finish - r.start)) with
    rows := s.rows.closedAt r ((s.formRow r page .step (r.finish - r.start)).edgeIsCold page.coldThreshold) }

theorem State.endRow_of_applied (applied : s.rows.pending = false) :
    s.endRow = ({ s with rows := { s.rows with openRow := none } } : State).tryOpenRow := by
  simp [State.endRow, State.applyRecordPage, applied]

theorem State.closeAtEnd_of_reached (found : s.rows.openRow = some r) (given : s.rows.page = some page)
    (applied : s.rows.pending = false) (reached : r.finish ≤ s.rows.lastChainage) :
    s.closeAtEnd = (s.stepClosed r page).tryOpenRow := by
  have unchanged : ∀ rows cold, (Rows.judgeEdge rows cold).pending = rows.pending := fun rows cold => by cases cold <;> rfl
  rw [State.closeAtEnd, found, given]
  refine (if_pos reached).trans ?_
  rw [State.closeKept]
  have marked := State.commitRow_rows { s with rows := s.rows.marked r.finish r.finish }
    (State.formRow { s with rows := s.rows.marked r.finish r.finish } r page .step (r.finish - r.start))
  rw [State.endRow_of_applied (by rw [unchanged, marked]; exact applied), marked]
  have commit :
      (({ s with rows := s.rows.marked r.finish r.finish } : State).commitRow
          (s.formRow r page .step (r.finish - r.start))) =
        { s.commitRow (s.formRow r page .step (r.finish - r.start)) with rows := s.rows.marked r.finish r.finish } := by
    unfold State.commitRow
    dsimp only
    split_ifs
    · rfl
    · rfl
  have closed := congrArg (fun u : State =>
    ({ u with
        rows := s.rows.closedAt r ((s.formRow r page .step (r.finish - r.start)).edgeIsCold page.coldThreshold) } :
      State).tryOpenRow) commit
  exact closed

theorem State.tryOpenRow_rest (s : State) : s.tryOpenRow = { s with rows := s.tryOpenRow.rows } := by
  unfold State.tryOpenRow
  split
  · split_ifs
    · rfl
    · rfl
  · rfl

/-- A row that opens leaves the edge as it was judged. -/
theorem State.tryOpenRow_edge (s : State) :
    s.tryOpenRow.rows.coldRun = s.rows.coldRun ∧ s.tryOpenRow.rows.warmRun = s.rows.warmRun ∧
      s.tryOpenRow.rows.edgeCold = s.rows.edgeCold := by
  unfold State.tryOpenRow
  split
  · split_ifs
    · exact ⟨rfl, rfl, rfl⟩
    · exact ⟨rfl, rfl, rfl⟩
  · exact ⟨rfl, rfl, rfl⟩

theorem State.tryOpenRow_of_opens (closed : s.rows.openRow = none) (given : s.rows.page = some page)
    (scanner : s.straps.scanner = true) (run : s.sup.station = .run) (paving : s.travel.state = .paving) :
    s.tryOpenRow.rows =
      { s.rows with
        openRow := some (.opened (s.rowStart page.rowStep) page.rowStep s.rows.lastEpoch (s.rows.silence == .expired))
        highWater := some (s.rowStart page.rowStep), continuation := none } := by
  rw [State.tryOpenRow, closed, given]
  dsimp only
  rw [if_pos (by simp [scanner, run, paving])]

/-- A row that follows a close starts at its end (R138). -/
theorem State.rowStart_of_continuation {step : Nat} (wide : 0 < step) (continues : s.rows.continuation = some s.rows.lastChainage) :
    s.rowStart step = s.rows.lastChainage := by
  have beyond : s.rows.lastChainage < nextMultiple step s.rows.lastChainage := by
    unfold nextMultiple
    have := Nat.lt_div_mul_add (a := s.rows.lastChainage) wide
    rw [Nat.add_mul]
    omega
  rw [State.rowStart, continues]
  exact if_pos beyond

theorem State.commitRow_overwrites (row : Row) (full : 512 ≤ s.ring.rows.length) (wrap : s.ring.mode = .wrap) :
    (s.commitRow row).alarm .ringOverwrite = true := by
  have overwrites : s.ring.overwrites = true := by
    simp [Ring.overwrites, Ring.count, Config.ringRows, wrap, show ¬s.ring.rows.length < 512 by omega]
  rw [State.commitRow, if_pos overwrites]
  rfl

end

/-! ## The centimetre that reaches the end -/

/-- The settle, which may end with the same centimetre, leaves the sensors of the side. -/
theorem State.travelToLevel_grade (s : State) (before : Travel) : (s.travelToLevel before).level.grade = s.level.grade := by
  unfold State.travelToLevel
  split_ifs
  · unfold State.leavePaving
    split_ifs
    · split <;> rfl
    · rfl
  · unfold State.returnToPaving
    split_ifs <;> rfl
  · unfold State.testSettle
    split
    · split_ifs
      · dsimp only; rw [Levelling.settleEnd_rest]
      · rfl
    · rfl
  · rfl
  · rfl

/-- The Row Builder is handed a change of chainage in an unchanged travel state. -/
theorem State.setTravel_of_moved {s : State} {u : Travel} (scanner : s.straps.scanner = true)
    (same : u.state = s.travel.state) (moves : u.chainage ≠ s.travel.chainage) :
    s.setTravel u false = (State.travelToLevel { s with travel := u } s.travel).handChainage.closeAtEnd := by
  have frame := State.travelToLevel_frame { s with travel := u } s.travel
  have fitted : (State.travelToLevel { s with travel := u } s.travel).straps.scanner = true := by rw [frame]; exact scanner
  have travel : (State.travelToLevel { s with travel := u } s.travel).travel = u := by rw [frame]
  rw [State.setTravel, State.travelToRows, if_pos fitted, travel, if_pos (by simp [same]), State.chainageToRows,
    if_neg Bool.false_ne_true, travel, if_neg (by simpa using Ne.symm moves)]

/-- The state after a forward centimetre as the Row Builder is handed it. -/
def State.handed (s : State) : State :=
  (State.travelToLevel { s.withPair (s.pins.encoder + 1) with travel := s.travel.step true s.now } s.travel).handChainage

theorem State.handed_eq (s : State) :
    s.handed =
      { s.withPair (s.pins.encoder + 1) with
        travel := s.travel.step true s.now, level := s.handed.level
        rows :=
          { s.rows with
            lastChainage := (s.travel.step true s.now).chainage, lastEpoch := (s.travel.step true s.now).epoch }
        sup := { s.sup with offerDue := s.handed.sup.offerDue } } := by
  have frame := State.travelToLevel_frame { s.withPair (s.pins.encoder + 1) with travel := s.travel.step true s.now } s.travel
  exact (congrArg State.handChainage frame).trans rfl

theorem State.handed_formRow (s : State) (r : OpenRow) (page : RecordPage) (cause : CloseCause) (length : Nat) :
    s.handed.formRow r page cause length = s.formRow r page cause length := by
  refine State.formRow_congr r page cause length ?_ ?_ ?_
  · rw [s.handed_eq]; rfl
  · rw [s.handed_eq]; rfl
  · exact State.travelToLevel_grade { s.withPair (s.pins.encoder + 1) with travel := s.travel.step true s.now } s.travel

theorem Travel.step_epoch {t : Travel} {page : TravelPage} (now : Nat) (calibrated : t.page = some page)
    (third : t.steps = 3) : (t.step true now).epoch = t.epoch := by
  rw [Travel.step_of_calibrated now calibrated (by simpa using third)]
  obtain ⟨-, -, -, epoch, -⟩ := Travel.moveTo_keeps (t.counted true page)
    (pulsed true t.remainder t.chainage page.pulsesPerMetre).2 now
  exact epoch

/-- Settles O45: the close at the end of the row and the row that follows, and what a formed row holds. -/
theorem stepCloseCommitsRow : Obligations.StepCloseCommitsRow := by
  unfold Obligations.StepCloseCommitsRow
  refine ⟨?closes, ?formed⟩
  case closes =>
    intro s travelPage page r row running encoder calibrated third full below still scanner given applied wide found reached epoch
      formed
    obtain ⟨chainage, state⟩ := Travel.step_centimetre s.now calibrated third full below
    rw [still] at state
    have epochs := Travel.step_epoch s.now calibrated third
    have handed := s.handed_eq
    have openRow : s.handed.rows.openRow = some r := by rw [handed]; exact found
    have pageHeld : s.handed.rows.page = some page := by rw [handed]; exact given
    have idle : s.handed.rows.pending = false := by rw [handed]; exact applied
    have last : s.handed.rows.lastChainage = r.finish := by rw [handed, reached]; exact chainage
    have row_eq : s.handed.formRow r page .step (r.finish - r.start) = row := (s.handed_formRow r page _ _).trans formed.symm
    have closed := State.closeAtEnd_of_reached openRow pageHeld idle last.ge
    have ring : s.handed.ring = s.ring := by rw [handed]; rfl
    have frame := s.handed.commitRow_frame row
    have after : s.handed.stepClosed r page =
        { s.handed.commitRow row with rows := s.handed.rows.closedAt r (row.edgeIsCold page.coldThreshold) } := by
      rw [State.stepClosed, row_eq]
    have marks := Rows.judgeEdge_rest (s.handed.rows.marked r.finish r.finish) (row.edgeIsCold page.coldThreshold)
    have closedRows : (s.handed.stepClosed r page).rows.openRow = none ∧
        (s.handed.stepClosed r page).rows.page = some page ∧
        (s.handed.stepClosed r page).rows.lastChainage = r.finish ∧
        (s.handed.stepClosed r page).rows.lastEpoch = r.epoch ∧
        (s.handed.stepClosed r page).rows.highWater = some r.finish ∧
        (s.handed.stepClosed r page).rows.continuation = some r.finish := by
      rw [after]
      dsimp only [Rows.closedAt]
      rw [marks]
      refine ⟨rfl, pageHeld, last, ?_, rfl, rfl⟩
      rw [epoch, ← epochs]
      show s.handed.rows.lastEpoch = _
      rw [handed]
    obtain ⟨none, kept, lastC, lastE, high, continues⟩ := closedRows
    have travel : (s.handed.stepClosed r page).travel.state = s.travel.state := by
      rw [after]
      show (s.handed.commitRow row).travel.state = _
      rw [frame.travel, handed]
      exact state
    have station : (s.handed.stepClosed r page).sup.station = s.sup.station := by
      rw [after]
      show (s.handed.commitRow row).sup.station = _
      rw [frame.station, handed]
    have fitted : (s.handed.stepClosed r page).straps.scanner = true := by
      rw [after]
      show (s.handed.commitRow row).identity.straps.scanner = true
      rw [frame, handed]
      exact scanner
    refine exec_encoderChange_forward running encoder fun t same => ?_
    rw [State.setTravel_of_moved (s := s.withPair (s.pins.encoder + 1)) scanner state
      (by rw [chainage]; simp [State.withPair])] at same
    replace same : State.SameButStatus s.handed.closeAtEnd t := same
    rw [closed, State.tryOpenRow_rest] at same
    refine ⟨?state, ?ring, ?overwrite, ?cold, ?warm, ?opens, ?stays⟩
    case state => rw [same.travel]; exact travel
    case ring =>
      rw [same.ring]
      show (s.handed.stepClosed r page).ring = _
      rw [after]
      show (s.handed.commitRow row).ring = _
      rw [State.commitRow_ring, ring, Ring.commit_eq_handed]
    case overwrite =>
      intro filled wrap
      rw [same.alarm]
      show (s.handed.stepClosed r page).alarm .ringOverwrite = true
      rw [after]
      exact State.commitRow_overwrites row (by rw [ring]; exact filled) (by rw [ring]; exact wrap)
    case cold =>
      intro cold
      obtain ⟨coldRun, warmRun, edgeCold⟩ := (s.handed.stepClosed r page).tryOpenRow_edge
      rw [same.rows, coldRun, warmRun, edgeCold, after]
      dsimp only [Rows.closedAt]
      rw [(row.edgeIsCold_iff page.coldThreshold).2 cold, Rows.judgeEdge_cold, handed]
      exact ⟨rfl, rfl, rfl⟩
    case warm =>
      intro warm
      obtain ⟨coldRun, warmRun, edgeCold⟩ := (s.handed.stepClosed r page).tryOpenRow_edge
      have judged : row.edgeIsCold page.coldThreshold = false := by simpa using (row.edgeIsCold_iff page.coldThreshold).not.2 warm
      rw [same.rows, coldRun, warmRun, edgeCold, after]
      dsimp only [Rows.closedAt]
      rw [judged, Rows.judgeEdge_warm, handed]
      exact ⟨rfl, rfl, rfl⟩
    case opens =>
      rintro ⟨paving, run⟩
      have start : (s.handed.stepClosed r page).rowStart page.rowStep = r.finish :=
        (State.rowStart_of_continuation wide (continues.trans (congrArg some lastC.symm))).trans lastC
      rw [same.rows]
      dsimp only
      rw [State.tryOpenRow_of_opens none kept fitted (station.trans run) (travel.trans paving), start, lastE]
      exact ⟨_, rfl, rfl, rfl, rfl, rfl, rfl, rfl⟩
    case stays =>
      intro still
      have unopened : (s.handed.stepClosed r page).tryOpenRow = s.handed.stepClosed r page := by
        by_cases paving : s.travel.state = .paving
        · exact State.tryOpenRow_of_not_run fun run => still ⟨paving, station.symm.trans run⟩
        · exact State.tryOpenRow_of_not_paving (by rwa [travel])
      rw [same.rows]
      dsimp only
      rw [unopened]
      exact ⟨none, high, continues⟩
  case formed =>
    rintro s r page cause length row rfl
    refine ⟨rfl, rfl, rfl, rfl, rfl, rfl, s.formRow_stopped r page cause length, s.formRow_cells_length r page cause length,
      fun i cell inside here => s.formRow_cell r page cause length inside here, s.formRow_minimum_iff r page cause length, rfl,
      fun i covers lower => markTag_of_lowest covers lower, fun absent => markTag_of_none absent, rfl, rfl, s.screedHeight_eq⟩

end Sys2Proof.Machine
end

section
/-! PROOFS. COLLECT, the reports of RECORDs sent, and RELEASE (R152, R157 to R160). -/

namespace Sys2Proof.Machine

/-! ## Sequences against the oldest (R152) -/

section
variable (r : Ring)

/-- A sequence a little past the oldest lies at that place. -/
theorem Ring.place_of_add {i : Nat} (small : i < 2147483648) : r.place (r.oldest + BitVec.ofNat 32 i) = i := by
  have shift : r.oldest + BitVec.ofNat 32 i - r.oldest = BitVec.ofNat 32 i := by ring
  rw [Ring.place, shift, BitVec.toInt_eq_toNat_of_lt (by simp; omega), BitVec.toNat_ofNat]
  omega

theorem Ring.newest_eq {n : Nat} (count : r.count = n + 1) : r.next - 1 = r.oldest + BitVec.ofNat 32 n := by
  rw [r.next_eq, count, ofNat_succ]
  ring

theorem toNat_of_place {x : Word32} (past : 0 ≤ x.toInt) : x.toInt.toNat = x.toNat := by
  rw [BitVec.toInt_eq_toNat_cond] at past ⊢
  have := x.isLt
  split_ifs at past ⊢
  · omega
  · omega

theorem Ring.Sound.seq {r : Ring} (sound : r.Sound) {i : Nat} {h : HeldRow} (here : r.rows[i]? = some h) :
    h.seq = r.oldest + BitVec.ofNat 32 i ∧ i < r.count ∧ r.count ≤ 512 := by
  obtain ⟨bound, places, -, -⟩ := sound
  obtain ⟨inside, -⟩ := List.getElem?_eq_some_iff.1 here
  exact ⟨places i h here, inside, bound⟩

end

theorem collectCount_eq (count : Nat) : collectCount count = max 1 (min 16 count) := clampNat_eq (by decide) count

/-! ## The range of a COLLECT (R157) -/

section
variable {r : Ring} {first : Word32} {count n i : Nat} {h : HeldRow}

/-- The range is empty with no row held, past the newest, and before the oldest. -/
theorem Ring.rangeFor_of_empty (asked : n = max 1 (min 16 count))
    (outside : r.rows = [] ∨ (r.rows.length : Int) ≤ (first - r.oldest).toInt ∨
      (first + BitVec.ofNat 32 (n - 1) - r.oldest).toInt < 0) : r.rangeFor first count = .empty := by
  rw [← collectCount_eq] at asked
  subst asked
  unfold Ring.rangeFor
  dsimp only
  by_cases none : r.rows.isEmpty = true
  · rw [if_pos none]
  rw [if_neg none]
  by_cases past : (r.count : Int) ≤ r.place first
  · rw [if_pos past]
  rw [if_neg past, if_pos]
  rcases outside with empty | beyond | before
  · simp [empty] at none
  · exact absurd beyond past
  · exact before

/-- The row that a COLLECT finds first: the one it names, or the oldest when it begins before it and reaches it. -/
def BeginsAt (first : Word32) (n i : Nat) (h : HeldRow) : Prop :=
  first = h.seq ∨ (i = 0 ∧ (first - h.seq).toInt < 0 ∧ 0 ≤ (first + BitVec.ofNat 32 (n - 1) - h.seq).toInt)

/-- The range's last: the last asked for, or the newest row when that lies past it. -/
def Ring.lastOf (r : Ring) (last : Word32) : Word32 :=
  if (last - r.oldest).toInt < (r.rows.length : Int) then last else r.next - 1

theorem Ring.Sound.place_asked (sound : r.Sound) (here : r.rows[i]? = some h) (short : n ≤ 16)
    (begins : BeginsAt first n i h) :
    r.place first < r.count ∧ (i : Int) ≤ r.place (first + BitVec.ofNat 32 (n - 1)) ∧
      (if r.place first < 0 then r.oldest else first) = h.seq := by
  obtain ⟨seq, inside, bound⟩ := sound.seq here
  rcases begins with rfl | ⟨rfl, before, reaches⟩
  · have last : h.seq + BitVec.ofNat 32 (n - 1) = r.oldest + BitVec.ofNat 32 (i + (n - 1)) := by
      rw [seq, BitVec.ofNat_add, add_assoc]
    rw [last, seq, r.place_of_add (by omega), r.place_of_add (by omega)]
    exact ⟨by omega, by omega, if_neg (by omega)⟩
  · have oldest : h.seq = r.oldest := seq.trans (by simp)
    rw [oldest] at before reaches
    refine ⟨?_, reaches, ?_⟩
    · show (first - r.oldest).toInt < _
      omega
    · rw [oldest]
      exact if_pos before

theorem Ring.Sound.rangeFor_of_begins (sound : r.Sound) (here : r.rows[i]? = some h) (asked : n = max 1 (min 16 count))
    (begins : BeginsAt first n i h) :
    r.rangeFor first count = .span h.seq (r.lastOf (first + BitVec.ofNat 32 (n - 1))) := by
  obtain ⟨inside, last, low⟩ := sound.place_asked here (by omega) begins
  have held : ¬r.rows.isEmpty = true := by
    intro empty
    simp [List.isEmpty_iff.1 empty] at here
  rw [← collectCount_eq] at asked
  subst asked
  unfold Ring.rangeFor
  dsimp only
  rw [if_neg held, if_neg (by omega), if_neg (by omega), low]
  rfl

/-- The range's last does not lie before its first. -/
theorem Ring.Sound.place_lastOf (sound : r.Sound) (here : r.rows[i]? = some h) (short : n ≤ 16)
    (begins : BeginsAt first n i h) : (i : Int) ≤ r.place (r.lastOf (first + BitVec.ofNat 32 (n - 1))) := by
  obtain ⟨-, last, -⟩ := sound.place_asked here short begins
  obtain ⟨-, inside, bound⟩ := sound.seq here
  unfold Ring.lastOf
  split_ifs
  · exact last
  · rw [r.newest_eq (n := r.count - 1) (by omega), r.place_of_add (by omega)]
    omega

end

/-! ## Answers (R159) -/

section
variable {s : State}

theorem State.offerAnswer_of_outstanding (waits : s.ring.collection.answerOutstanding = true) : s.offerAnswer = s := if_pos waits

theorem State.offerAnswer_of_owed {outcome : CollectOutcome} (free : s.ring.collection.answerOutstanding = false)
    (owed : s.ring.collection.final = .owed outcome) :
    s.offerAnswer =
      (s.setCollection { s.ring.collection with final := .offered, answerOutstanding := true }).offer
        (.collectEnd
          (s.ring.answer (s.ring.collection.requester.getD 0) outcome (s.ring.collection.firstAsked.getD 0)
            s.ring.collection.firstSent s.ring.collection.sent s.ring.collection.skipped)) := by
  rw [State.offerAnswer]
  dsimp only
  rw [if_neg (by simp [free]), owed]

theorem State.offerAnswer_of_busy {b : BusyAnswer} (free : s.ring.collection.answerOutstanding = false)
    (unowed : ∀ outcome, s.ring.collection.final ≠ .owed outcome) (busy : s.ring.collection.busy = some b) :
    s.offerAnswer =
      (s.setCollection { s.ring.collection with busy := none, answerOutstanding := true }).offer
        (.collectEnd (s.ring.answer b.requester .busy b.firstAsked none 0 0)) := by
  rw [State.offerAnswer]
  dsimp only
  rw [if_neg (by simp [free]), busy]
  cases final : s.ring.collection.final with
  | absent => rfl
  | owed outcome => exact absurd final (unowed outcome)
  | offered => rfl

/-- An answer touches the answers owed and outstanding, and the COLLECT-END slot. -/
theorem State.offerAnswer_ring (s : State) :
    ∃ final busy outstanding,
      s.offerAnswer.ring =
        { s.ring with
          collection :=
            { s.ring.collection with final := final, busy := busy, answerOutstanding := outstanding } } := by
  unfold State.offerAnswer
  dsimp only
  split_ifs
  · exact ⟨_, _, _, rfl⟩
  · split
    · exact ⟨_, _, _, rfl⟩
    · exact ⟨_, _, _, rfl⟩
    · exact ⟨_, _, _, rfl⟩

theorem State.offer_collectEnd_newest (s : State) (c : CollectEndContent) :
    (s.offer (.collectEnd c)).line.queue.collectEnd.newest = some (.collectEnd c) := TxSlot.offered_newest _ _ _

theorem State.offer_record_newest (s : State) (c : RecordContent) :
    (s.offer (.record c)).line.queue.record.newest = some (.record c) := TxSlot.offered_newest _ _ _

/-! ## The next RECORD (R158) -/

theorem State.offerNextRecord_of_held {first last next : Word32} {h : HeldRow} (range : s.ring.collection.range = .span first last)
    (waits : s.ring.collection.next = some next) (within : s.ring.place (s.ring.resumeFrom next) ≤ s.ring.place last)
    (held : s.ring.held (s.ring.resumeFrom next) = some h) :
    s.offerNextRecord =
      (s.setCollection
        { s.ring.collection with
          skipped := s.ring.collection.skipped + s.ring.skippedFrom next last
          next := some (s.ring.resumeFrom next + 1), outstanding := true
          firstSent := some (s.ring.collection.firstSent.getD (s.ring.resumeFrom next)) }).offer
        (.record ⟨s.ring.collection.requester.getD 0, h⟩) := by
  rw [State.offerNextRecord]
  dsimp only
  rw [range, waits]
  dsimp only
  rw [if_neg (by omega), held]

/-- The collection when its range holds no further row. -/
def Collection.exhausted (c : Collection) (r : Ring) (next last : Word32) : Collection :=
  { c with skipped := c.skipped + r.skippedFrom next last, next := some (r.resumeFrom next), final := .owed .done }

theorem State.offerNextRecord_of_exhausted {first last next : Word32} (range : s.ring.collection.range = .span first last)
    (waits : s.ring.collection.next = some next)
    (exhausted : s.ring.place last < s.ring.place (s.ring.resumeFrom next) ∨ s.ring.held (s.ring.resumeFrom next) = none) :
    s.offerNextRecord = (s.setCollection (s.ring.collection.exhausted s.ring next last)).offerAnswer := by
  rw [State.offerNextRecord]
  unfold Collection.exhausted
  dsimp only
  rw [range, waits]
  dsimp only
  by_cases past : s.ring.place last < s.ring.place (s.ring.resumeFrom next)
  · rw [if_pos past]
  · rw [if_neg past, exhausted.resolve_left past]

end

/-! ## The notice of a collection (R176) -/

section
variable {s : State}

theorem State.noticeCollection_of_same {before : Bool} (same : s.ring.collection.inFlight = before) :
    s.noticeCollection before = s := if_pos (by simp [same])

theorem State.noticeCollection_of_begun (begun : s.ring.collection.inFlight = true) :
    s.noticeCollection false =
      { s with sup := { s.sup with station := if s.sup.station = .park then .parkInquiry else s.sup.station } } := by
  by_cases parked : s.sup.station = .park
  · simp [State.noticeCollection, begun, parked]
  · rw [if_neg parked]
    rcases s.noticeCollection_cases false with ⟨same, -⟩ | ⟨-, park, -⟩ | ⟨-, -, ended, -⟩ | ⟨-, -, ended, -⟩
    · exact same
    · exact absurd park parked
    · exact absurd (begun.symm.trans ended) (by decide)
    · exact absurd (begun.symm.trans ended) (by decide)

end

/-! ## COLLECT -/

section
variable {s : State}

/-- The collection record of a COLLECT accepted. -/
def State.collecting (s : State) (sender : Fin 16) (first : Word32) (count : Nat) : Collection :=
  { s.ring.collection with
    inFlight := true, requester := some sender, firstAsked := some first, range := s.ring.rangeFor first count
    firstSent := none, sent := 0, skipped := 0 }

theorem State.takeCollect_of_span {low last : Word32} {count : Nat} (sender : Fin 16) (first : Word32)
    (idle : s.ring.collection.inFlight = false) (range : s.ring.rangeFor first count = .span low last) :
    s.takeCollect sender first count =
      (s.setCollection { s.collecting sender first count with next := some low }).offerNextRecord := by
  rw [State.takeCollect]
  unfold State.collecting
  dsimp only
  rw [if_neg (by simp [idle]), range]

theorem State.takeCollect_of_empty {count : Nat} (sender : Fin 16) (first : Word32)
    (idle : s.ring.collection.inFlight = false) (range : s.ring.rangeFor first count = .empty) :
    s.takeCollect sender first count =
      (s.setCollection { s.collecting sender first count with next := none, final := .owed .empty }).offerAnswer := by
  rw [State.takeCollect]
  unfold State.collecting
  dsimp only
  rw [if_neg (by simp [idle]), range]

theorem State.takeCollect_of_busy (sender : Fin 16) (first : Word32) (count : Nat)
    (busy : s.ring.collection.inFlight = true) :
    s.takeCollect sender first count =
      (s.setCollection { s.ring.collection with busy := some ⟨sender, first⟩ }).offerAnswer := if_pos busy

/-- The ring after an accepted COLLECT: the RECORD of the range's first row is offered at once. -/
theorem State.takeCollect_of_begins {first : Word32} {count n i : Nat} {h : HeldRow} (sender : Fin 16) (sound : s.ring.Sound)
    (idle : s.ring.collection.inFlight = false) (asked : n = max 1 (min 16 count)) (here : s.ring.rows[i]? = some h)
    (begins : BeginsAt first n i h) :
    s.takeCollect sender first count =
      (s.setCollection
        { s.ring.collection with
          inFlight := true, requester := some sender, firstAsked := some first
          range := .span h.seq (s.ring.lastOf (first + BitVec.ofNat 32 (n - 1)))
          next := some (h.seq + 1), firstSent := some h.seq, sent := 0, skipped := 0, outstanding := true }).offer
        (.record ⟨sender, h⟩) := by
  have range := sound.rangeFor_of_begins here asked begins
  obtain ⟨seq, inside, bound⟩ := sound.seq here
  have place : s.ring.place h.seq = i := by rw [seq, s.ring.place_of_add (by omega)]
  have resume : s.ring.resumeFrom h.seq = h.seq := if_neg (by omega)
  have skipped : ∀ last, s.ring.skippedFrom h.seq last = 0 := fun last => if_neg (by omega)
  have reached := sound.place_lastOf here (n := n) (by omega) begins
  have offered := State.offerNextRecord_of_held
    (s := s.setCollection { s.collecting sender first count with next := some h.seq }) (h := h) range rfl
    (by show s.ring.place (s.ring.resumeFrom h.seq) ≤ _; rw [resume, place]; exact reached)
    (by show s.ring.held (s.ring.resumeFrom h.seq) = _; rw [resume]; exact Ring.held_of_sound sound here)
  rw [State.takeCollect_of_span sender first idle range, offered]
  unfold State.setCollection State.collecting
  dsimp only [Option.getD_some, Option.getD_none]
  have settled := resume
  have passed := skipped (s.ring.lastOf (first + BitVec.ofNat 32 (n - 1)))
  unfold Ring.resumeFrom Ring.skippedFrom Ring.place Ring.oldest Ring.count at *
  dsimp only
  rw [settled, passed, range]

end

end Sys2Proof.Machine
end

section
/-! PROOFS. The obligation about COLLECT, the reports of RECORDs sent, and RELEASE. -/

namespace Sys2Proof.Machine

/-! ## RELEASE (R160) -/

section
variable {r : Ring}

theorem Ring.releaseCount_eq (r : Ring) (upto : Word32) :
    r.releaseCount upto =
      if r.rows = [] ∨ (upto - r.oldest).toInt < 0 then 0 else min ((upto - r.oldest).toNat + 1) r.rows.length := by
  unfold Ring.releaseCount Ring.place Ring.count
  by_cases empty : r.rows = []
  · rw [if_pos (List.isEmpty_iff.2 empty), if_pos (.inl empty)]
  rw [if_neg (List.isEmpty_iff.not.2 empty)]
  by_cases before : (upto - r.oldest).toInt < 0
  · rw [if_pos before, if_pos (.inr before)]
  · rw [if_neg before, if_neg (not_or.2 ⟨empty, before⟩), toNat_of_place (by omega)]

/-- The oldest sequence moves by the number of rows released (R152, R160). -/
theorem Ring.releaseTo_oldest (r : Ring) (upto : Word32) :
    (r.releaseTo upto).oldest = r.oldest + BitVec.ofNat 32 (r.releaseCount upto) := by
  have fits := r.releaseCount_le upto
  have split : r.count = (r.rows.drop (r.releaseCount upto)).length + r.releaseCount upto := by
    rw [List.length_drop]
    unfold Ring.count at *
    omega
  have next : (r.releaseTo upto).oldest = r.next - BitVec.ofNat 32 (r.rows.drop (r.releaseCount upto)).length := rfl
  rw [next, r.next_eq, split, BitVec.ofNat_add]
  ring

theorem Ring.full_eq_false (short : r.rows.length < 512) : r.full = false := by
  simp [Ring.full, Config.ringRows, show ¬512 ≤ r.rows.length by omega]

end

/-! ## The report of a RECORD sent (R158) -/

section
variable {s : State} {sender : Fin 16} {asked first last next start : Word32} {skip : Nat}

/-- The collection after the report that the RECORD outstanding has been sent, before the next one is looked for. -/
def State.recordCounted (s : State) : State :=
  (s.sentSettled .record).setCollection
    { s.ring.collection with sent := s.ring.collection.sent + 1, outstanding := false }

theorem State.recordSent_of_outstanding (outstanding : s.ring.collection.outstanding = true) :
    (s.sentSettled .record).recordSent = s.recordCounted.offerNextRecord := if_pos outstanding

/-- Where the collection goes on, and what it passes over. -/
theorem Ring.resumes (r : Ring) (next last : Word32)
    (goesOn : (start, skip) =
      (if (next - r.oldest).toInt < 0 then
        (r.oldest, (min (last - r.oldest).toInt (-1) - (next - r.oldest).toInt + 1).toNat)
      else (next, 0))) : r.resumeFrom next = start ∧ r.skippedFrom next last = skip := by
  unfold Ring.resumeFrom Ring.skippedFrom Ring.place
  split_ifs at goesOn ⊢
  · cases goesOn; exact ⟨rfl, rfl⟩
  · cases goesOn; exact ⟨rfl, rfl⟩

theorem State.offerAnswer_sup (s : State) : s.offerAnswer.sup = s.sup := by
  unfold State.offerAnswer
  dsimp only
  split_ifs
  · rfl
  · split
    · rfl
    · rfl
    · rfl

theorem State.recordCounted_slot {k : StationKind} (other : k ≠ .record) :
    s.recordCounted.line.queue.get k = s.line.queue.get k := State.sentSettled_slot other

/-- The next RECORD of the range is offered. -/
theorem State.recordCounted_held {h : HeldRow} (range : s.ring.collection.range = .span first last)
    (waits : s.ring.collection.next = some next) (asker : s.ring.collection.requester = some sender)
    (resumes : s.ring.resumeFrom next = start ∧ s.ring.skippedFrom next last = skip)
    (within : s.ring.place start ≤ s.ring.place last) (held : s.ring.held start = some h) :
    s.recordCounted.offerNextRecord =
      (s.recordCounted.setCollection
        { s.ring.collection with
          sent := s.ring.collection.sent + 1, skipped := s.ring.collection.skipped + skip, next := some (start + 1)
          outstanding := true, firstSent := some (s.ring.collection.firstSent.getD start) }).offer
        (.record ⟨sender, h⟩) := by
  obtain ⟨rfl, rfl⟩ := resumes
  have offered := State.offerNextRecord_of_held (s := s.recordCounted) range waits within held
  rw [offered]
  have content : s.recordCounted.ring.collection.requester.getD 0 = sender := by
    show s.ring.collection.requester.getD 0 = sender
    rw [asker, Option.getD_some]
  rw [content]
  rfl

/-- The range holds no further row: the final answer DONE is owed. -/
theorem State.recordCounted_exhausted (range : s.ring.collection.range = .span first last)
    (waits : s.ring.collection.next = some next)
    (resumes : s.ring.resumeFrom next = start ∧ s.ring.skippedFrom next last = skip)
    (exhausted : s.ring.place last < s.ring.place start ∨ s.ring.held start = none) :
    s.recordCounted.offerNextRecord =
      (s.recordCounted.setCollection
        { s.ring.collection with
          sent := s.ring.collection.sent + 1, skipped := s.ring.collection.skipped + skip, next := some start
          outstanding := false, final := .owed .done }).offerAnswer := by
  obtain ⟨rfl, rfl⟩ := resumes
  exact State.offerNextRecord_of_exhausted (s := s.recordCounted) range waits exhausted

end

/-- Settles O46: COLLECT by its range and by the collection in flight, the report of a RECORD by what the range still holds, and
RELEASE. -/
theorem collectAndReleaseServeRing : Obligations.CollectAndReleaseServeRing := by
  unfold Obligations.CollectAndReleaseServeRing
  refine ⟨?begins, ?empty, ?busy, ?sent, ?release⟩
  case begins =>
    intro s sender first count n i h running sound idle asked here begins
    have taken := State.takeCollect_of_begins sender sound idle asked here begins
    refine State.take_reaches running (fun t => t.collectAndNotice sender first count) fun t same => ?_
    rw [State.collectAndNotice, taken, idle, State.noticeCollection_of_begun rfl] at same
    refine ⟨by rw [same.ring]; rfl, ?_, by rw [same.station]; rfl⟩
    have slot := same.slot .record (by decide)
    refine (congrArg TxSlot.newest slot).trans ?_
    exact State.offer_record_newest _ _
  case empty =>
    intro s sender first count n running idle asked outside
    have taken := State.takeCollect_of_empty sender first idle (Ring.rangeFor_of_empty asked outside)
    refine State.take_reaches running (fun t => t.collectAndNotice sender first count) fun t same => ?_
    obtain ⟨final, busy, outstanding, ring⟩ :=
      (s.setCollection { s.collecting sender first count with next := none, final := .owed .empty }).offerAnswer_ring
    rw [State.collectAndNotice, taken, idle, State.noticeCollection_of_begun (by rw [ring]; rfl)] at same
    have slot := same.slot .collectEnd (by decide)
    have kept : t.ring = _ := same.ring.trans ring
    refine ⟨by rw [kept]; rfl, by rw [kept]; exact Ring.rangeFor_of_empty asked outside, by rw [kept]; rfl,
      fun waits => ?_, fun free => ?_⟩
    · rw [State.offerAnswer_of_outstanding
        (s := s.setCollection { s.collecting sender first count with next := none, final := .owed .empty }) waits] at same slot
      exact ⟨by rw [same.ring]; rfl, slot⟩
    · rw [State.offerAnswer_of_owed
        (s := s.setCollection { s.collecting sender first count with next := none, final := .owed .empty }) free rfl] at same slot
      exact ⟨by rw [same.ring]; rfl, by rw [same.ring]; rfl,
        (congrArg TxSlot.newest slot).trans (State.offer_collectEnd_newest _ _)⟩
  case busy =>
    intro s sender first count running busy unowed
    have taken := State.takeCollect_of_busy sender first count busy
    refine State.take_reaches running (fun t => t.collectAndNotice sender first count) fun t same => ?_
    obtain ⟨final, pending, outstanding, ring⟩ :=
      (s.setCollection { s.ring.collection with busy := some ⟨sender, first⟩ }).offerAnswer_ring
    rw [State.collectAndNotice, taken, State.noticeCollection_of_same (by rw [ring]; rfl)] at same
    have slot := same.slot .collectEnd (by decide)
    cases waits : s.ring.collection.answerOutstanding with
    | true =>
      rw [State.offerAnswer_of_outstanding
        (s := s.setCollection { s.ring.collection with busy := some ⟨sender, first⟩ }) waits] at same slot
      exact ⟨same.station, fun _ => ⟨by rw [same.ring]; simp [State.setCollection], slot⟩, nofun⟩
    | false =>
      rw [State.offerAnswer_of_busy
        (s := s.setCollection { s.ring.collection with busy := some ⟨sender, first⟩ }) waits unowed rfl] at same slot
      exact ⟨same.station, nofun, fun _ => ⟨by rw [same.ring]; rfl,
        (congrArg TxSlot.newest slot).trans (State.offer_collectEnd_newest _ _)⟩⟩
  case sent =>
    intro s c p f sender asked first last next start skip running sound flies only outstanding asker asks range waits goesOn
    have resumes := s.ring.resumes next last goesOn
    refine exec_sendComplete_success running flies only fun t same => ?_
    replace same : State.SameButStatus (s.sentSettled .record).recordSent t := same
    rw [State.recordSent_of_outstanding outstanding] at same
    by_cases more : s.ring.place start ≤ s.ring.place last ∧ ∃ h, s.ring.held start = some h
    · obtain ⟨within, h, held⟩ := more
      rw [State.recordCounted_held range waits asker resumes within held] at same
      have slot := same.slot .record (by decide)
      refine ⟨same.station, by rw [same.ring]; rfl, by rw [same.ring]; rfl, by rw [same.ring]; rfl, by rw [same.ring]; rfl,
        fun i row here seq _ => ?_, fun none => ?_⟩
      · have found := Ring.held_of_sound sound here
        rw [seq, held] at found
        cases found
        exact ⟨by rw [same.ring]; rfl, by rw [same.ring]; rfl, by rw [same.ring]; rfl, by rw [same.ring]; rfl,
          (congrArg TxSlot.newest slot).trans (State.offer_record_newest _ _)⟩
      · rcases none with empty | past
        · simp [Ring.held, empty] at held
        · exact absurd within (not_le.2 past)
    · have exhausted : s.ring.place last < s.ring.place start ∨ s.ring.held start = none := by
        by_contra left
        push Not at left
        exact more ⟨left.1, Option.ne_none_iff_exists'.1 left.2⟩
      rw [State.recordCounted_exhausted range waits resumes exhausted] at same
      generalize counted : s.recordCounted.setCollection _ = u at same
      obtain ⟨final, busy, out, ring⟩ := u.offerAnswer_ring
      have kept : t.ring = _ := same.ring.trans ring
      have slot := same.slot .collectEnd (by decide)
      have settled : s.recordCounted.line.queue.get .collectEnd = s.line.queue.get .collectEnd :=
        State.recordCounted_slot (by decide)
      refine ⟨?_, by rw [kept, ← counted]; rfl, by rw [kept, ← counted]; rfl, by rw [kept, ← counted]; rfl,
        by rw [kept, ← counted]; rfl, fun i row here seq within => ?_,
        fun _ => ⟨by rw [kept, ← counted]; rfl, fun stands => ?_, fun free => ?_⟩⟩
      · rw [same.station, State.offerAnswer_sup, ← counted]
        rfl
      · have found := Ring.held_of_sound sound here
        rw [seq] at found
        exact absurd ⟨within, row, found⟩ more
      · rw [State.offerAnswer_of_outstanding (by rw [← counted]; exact stands)] at same slot
        exact ⟨by rw [same.ring, ← counted]; rfl, slot.trans (by rw [← counted]; exact settled)⟩
      · have owed : u.ring.collection.final = .owed .done := by rw [← counted]; rfl
        rw [State.offerAnswer_of_owed (by rw [← counted]; exact free) owed] at same slot
        refine ⟨by rw [same.ring]; rfl, by rw [same.ring]; rfl,
          (congrArg TxSlot.newest slot).trans ((State.offer_collectEnd_newest _ _).trans ?_)⟩
        rw [← counted]
        show some (Content.collectEnd (s.ring.answer (s.ring.collection.requester.getD 0) .done
          (s.ring.collection.firstAsked.getD 0) s.ring.collection.firstSent (s.ring.collection.sent + 1)
          (s.ring.collection.skipped + skip))) = _
        rw [asker, asks]
        rfl
  case release =>
    intro s upto k running count
    rw [← s.ring.releaseCount_eq] at count
    subst count
    refine State.take_reaches running (fun t => t.takeRelease upto) fun t same => ⟨same, ?_, fun short => ?_⟩
    · rw [same.ring]
      exact s.ring.releaseTo_oldest upto
    · rw [same.alarm]
      rw [same.ring] at short
      exact Ring.full_eq_false short

end Sys2Proof.Machine
end

section
/-! PROOFS. SETTINGS and the age of the pages (R163, R165, R166) with what each consumer makes of a page that arrives (R26, R58, R101,
R128, R148), and WAKE with the end of WAKING and of PARK-INQUIRY (R176, R177). -/

namespace Sys2Proof.Machine

/-! ## The page held -/

section
variable (s : State) (f : SettingsFields)

/-- The state in which the page's consumer is told: the page held, and a clamped field noted. -/
def State.held (s : State) (f : SettingsFields) : State := (s.holdPage f).noteClamp f

theorem State.held_eq :
    s.held f = { s with settings := (s.holdPage f).settings, sup := { s.sup with events := (s.held f).sup.events } } := by
  unfold State.held State.noteClamp
  split_ifs
  · cases f <;> rfl
  · cases f <;> rfl

theorem State.held_settings :
    (s.held f).settings =
      (match f with
        | .heat x => { s.settings with heat := some ⟨.ofFields x, s.now, false⟩ }
        | .level x => { s.settings with level := some ⟨.ofFields x, s.now, false⟩ }
        | .feed x => { s.settings with feed := some ⟨.ofFields x, s.now, false⟩ }
        | .record x => { s.settings with record := some ⟨.ofFields x, s.now, false⟩ }
        | .travel x => { s.settings with travel := some ⟨.ofFields x, s.now, false⟩ }) := by
  rw [State.held_eq]
  cases f <;> rfl

theorem State.held_clamped (changed : SettingsFields.changed f = true) :
    (s.held f).sup.events.settingsClamped.isSome = true := by
  rw [State.held, State.noteClamp, if_pos changed]
  rfl

end

/-! ## A page applied by its consumer -/

section
variable {s : State}

theorem State.applyHeatPage_of_held {page : Held HeatPage} (pending : s.heat.pending = true) (held : s.settings.heat = some page) :
    s.applyHeatPage = ({ s with heat := { s.heat with page := some page.page, pending := false } } : State).askStatus := by
  rw [State.applyHeatPage, if_pos pending, held]

theorem State.applyRecordPage_of_held {page : Held RecordPage} (pending : s.rows.pending = true)
    (held : s.settings.record = some page) :
    s.applyRecordPage =
      ({ s with
          rows := { s.rows with page := some page.page, pending := false }
          ring := { s.ring with mode := page.page.ringMode } } : State).askStatus := by
  rw [State.applyRecordPage, if_pos pending, held]

theorem State.tellHeat_of_window (runs : s.heat.supply = .running) :
    s.tellHeat = { s with heat := { s.heat with pending := true } } := if_pos (by simp [State.windowRuns, runs])

theorem State.tellHeat_of_no_window {page : Held HeatPage} (still : s.heat.supply ≠ .running)
    (held : s.settings.heat = some page) :
    s.tellHeat = ({ s with heat := { s.heat with page := some page.page, pending := false } } : State).askStatus := by
  have waits : ¬State.windowRuns { s with heat := { s.heat with pending := true } } = true := by
    simpa [State.windowRuns] using still
  rw [State.tellHeat]
  refine (if_neg waits).trans ?_
  rw [State.applyHeatPage_of_held (s := { s with heat := { s.heat with pending := true } }) rfl held]

theorem State.tellRecord_of_open (opened : s.rows.openRow.isSome = true) :
    s.tellRecord = { s with rows := { s.rows with pending := true } } := if_pos opened

/-- The state with a RECORD page applied, before R138 is tested. -/
def State.recordApplied (s : State) (page : RecordPage) : State :=
  ({ s with
      rows := { s.rows with page := some page, pending := false }, ring := { s.ring with mode := page.ringMode } } :
    State).askStatus

theorem State.tellRecord_of_closed {page : Held RecordPage} (closed : s.rows.openRow = none)
    (held : s.settings.record = some page) : s.tellRecord = (s.recordApplied page.page).tryOpenRow := by
  rw [State.tellRecord]
  refine (if_neg (by simp [closed])).trans ?_
  rw [State.applyRecordPage_of_held (s := { s with rows := { s.rows with pending := true } }) rfl held]
  rfl

/-- A row that opens leaves the page. -/
theorem State.tryOpenRow_pending (s : State) : s.tryOpenRow.rows.pending = s.rows.pending := by
  unfold State.tryOpenRow
  split
  · split_ifs
    · rfl
    · rfl
  · rfl

/-- With the chainage unchanged no row closes, so no event alarm is raised. -/
theorem State.setTravel_sup_of_still {t : Travel} (still : t.chainage = s.travel.chainage) :
    (s.setTravel t false).sup.events = s.sup.events ∧ (s.setTravel t false).settings = s.settings := by
  have frame := State.travelToLevel_frame { s with travel := t } s.travel
  generalize handed : State.travelToLevel { s with travel := t } s.travel = u at frame
  have events : u.sup.events = s.sup.events ∧ u.settings = s.settings := by
    rw [frame]
    exact ⟨rfl, rfl⟩
  have same : s.travel.chainage = u.travel.chainage := by
    rw [frame]
    exact still.symm
  rw [State.setTravel, handed, State.travelToRows]
  split_ifs
  · rw [State.chainageToRows_of_still same]
    exact events
  · rw [State.chainageToRows_of_still (s := u.markTravel) same, State.tryOpenRow_rest]
    exact events
  · exact events

end

/-! ## What a consumer is told (R163) -/

/-- A page applied to the travel record moves no chainage (R26). -/
theorem Travel.applyPage_keeps (t : Travel) (page : TravelPage) :
    (t.applyPage page).page = some page ∧ (t.applyPage page).chainage = t.chainage ∧
      (t.applyPage page).remainder = min t.remainder (page.pulsesPerMetre - 1) := by
  have remainder : remainderUnder t.remainder page.pulsesPerMetre = min t.remainder (page.pulsesPerMetre - 1) := by
    unfold remainderUnder
    split_ifs <;> omega
  unfold Travel.applyPage
  dsimp only
  rw [remainder]
  split_ifs
  · exact ⟨rfl, rfl, rfl⟩
  · exact ⟨rfl, rfl, rfl⟩

theorem Travel.applyPage_of_uncalibrated {t : Travel} (page : TravelPage) (uncalibrated : t.page = none) :
    (t.applyPage page).state = (if t.source = .none then .lost else .stopped) ∧ (t.applyPage page).mark = t.chainage := by
  rw [Travel.applyPage]
  refine ⟨?_, congrArg Travel.mark (if_neg (by simp [uncalibrated]))⟩
  refine (congrArg Travel.state (if_neg (by simp [uncalibrated]))).trans ?_
  simp [Travel.enter, Travel.restState]

/-- Whatever a consumer makes of a page, the pages held and the event alarms stay. -/
theorem State.tellConsumer_keeps (s : State) (f : SettingsFields) :
    (s.tellConsumer f).settings = s.settings ∧ (s.tellConsumer f).sup.events = s.sup.events := by
  cases f with
  | heat x =>
    unfold State.tellConsumer State.tellHeat
    dsimp only
    split_ifs
    · exact ⟨rfl, rfl⟩
    · unfold State.applyHeatPage
      split_ifs
      · split
        · exact ⟨rfl, rfl⟩
        · exact ⟨rfl, rfl⟩
      · exact ⟨rfl, rfl⟩
  | level x =>
    unfold State.tellConsumer
    dsimp only
    split_ifs
    · exact ⟨rfl, rfl⟩
    · exact ⟨rfl, rfl⟩
  | feed x =>
    unfold State.tellConsumer
    dsimp only
    split_ifs
    · exact ⟨rfl, rfl⟩
    · exact ⟨rfl, rfl⟩
  | record x =>
    unfold State.tellConsumer State.tellRecord
    dsimp only
    split_ifs
    · exact ⟨rfl, rfl⟩
    · rw [State.tryOpenRow_rest]
      unfold State.applyRecordPage
      split_ifs
      · split
        · exact ⟨rfl, rfl⟩
        · exact ⟨rfl, rfl⟩
      · exact ⟨rfl, rfl⟩
  | travel x =>
    obtain ⟨-, chainage, -⟩ := s.travel.applyPage_keeps (.ofFields x)
    exact (State.setTravel_sup_of_still chainage).symm

theorem State.tellConsumer_level (s : State) (x : LevelFields) :
    (s.tellConsumer (.level x)).level = { s.level with pending := s.levelling || s.level.pending } := by
  rw [State.tellConsumer]
  cases s.levelling with
  | true => rfl
  | false => rfl

theorem State.tellConsumer_feed (s : State) (x : FeedFields) :
    (s.tellConsumer (.feed x)).feed = { s.feed with pending := s.owner || s.feed.pending } := by
  rw [State.tellConsumer]
  cases s.owner with
  | true => rfl
  | false => rfl

/-- Settles O47: the page held by its kind, what each consumer makes of it, and the ages. -/
theorem settingsAreHeldHandedAndAged : Obligations.SettingsAreHeldHandedAndAged := by
  unfold Obligations.SettingsAreHeldHandedAndAged
  refine ⟨?settings, HeatPage.ofFields_inRange, LevelPage.ofFields_inRange, FeedPage.ofFields_inRange,
    RecordPage.ofFields_inRange, TravelPage.ofFields_inRange, ?ages⟩
  case settings =>
    intro s f running
    have held := s.held_eq f
    obtain ⟨settings, events⟩ := (s.held f).tellConsumer_keeps f
    refine State.take_reaches running (fun t => t.takeSettings f) fun t same => ?_
    replace same : State.SameButStatus ((s.held f).tellConsumer f) t := same
    refine ⟨by rw [same.settings, settings]; exact s.held_settings f, fun changed => ?clamped, ?heat, ?level, ?feed, ?record,
      ?travel⟩
    case clamped =>
      rw [same.alarm]
      show ((s.held f).tellConsumer f).sup.events.settingsClamped.isSome = true
      rw [events]
      exact s.held_clamped f changed
    case heat =>
      rintro x rfl
      rw [same.heat]
      refine ⟨fun runs => ?_, fun still => ?_⟩
      · rw [State.tellConsumer, State.tellHeat_of_window (by rw [held]; exact runs), held]
      · rw [State.tellConsumer, State.tellHeat_of_no_window (by rw [held]; exact still) (by rw [State.held_settings]), held]
        rfl
    case level =>
      rintro x rfl
      rw [same.level, State.tellConsumer_level, held]
      rfl
    case feed =>
      rintro x rfl
      rw [same.feed, State.tellConsumer_feed, held]
      rfl
    case record =>
      rintro x rfl
      rw [same.rows, same.ring]
      refine ⟨fun opened => ?_, fun closed => ?_⟩
      · rw [State.tellConsumer, State.tellRecord_of_open (by rw [held]; exact opened), held]
        exact ⟨rfl, rfl⟩
      · rw [State.tellConsumer, State.tellRecord_of_closed (by rw [held]; exact closed) (by rw [State.held_settings])]
        have still : ((s.held (.record x)).recordApplied (.ofFields x)).rows.openRow = none := by
          rw [held]
          exact closed
        refine ⟨by rw [State.tryOpenRow_page]; rfl, by rw [State.tryOpenRow_pending]; rfl, ?_, ?_⟩
        · rw [State.tryOpenRow_ring, held]
          rfl
        · rw [State.tryOpenRow_opens_iff still, held]
          exact ⟨fun ⟨_, fitted, run, paving⟩ => ⟨fitted, run, paving⟩, fun ⟨fitted, run, paving⟩ => ⟨rfl, fitted, run, paving⟩⟩
    case travel =>
      rintro x rfl
      have travel : t.travel = s.travel.applyPage (.ofFields x) := by
        rw [same.travel, State.tellConsumer, State.applyTravelPage, State.setTravel_travel, held]
      rw [travel]
      obtain ⟨page, chainage, remainder⟩ := s.travel.applyPage_keeps (.ofFields x)
      exact ⟨page, chainage, remainder, fun uncalibrated => Travel.applyPage_of_uncalibrated _ uncalibrated⟩
  case ages =>
    intro s k running
    refine State.take_reaches running (fun t => t.pageAged k) fun t same => ?_
    have settings := same.settings
    have pages : State.SameButStatus { s with settings := t.settings } t := by
      rw [settings]
      cases k <;> exact same
    refine ⟨pages, ?_⟩
    rw [settings]
    cases k with
    | heat => simp +contextual [State.pageAged, agedPage, passed_iff, Config.pageAge, Config.ms]
    | level => simp +contextual [State.pageAged, agedPage, passed_iff, Config.pageAge, Config.ms]
    | feed => simp +contextual [State.pageAged, agedPage, passed_iff, Config.pageAge, Config.ms]
    | record => simp +contextual [State.pageAged, agedPage, passed_iff, Config.pageAge, Config.ms]
    | travel => simp +contextual [State.pageAged, agedPage, passed_iff, Config.pageAge, Config.ms]

end Sys2Proof.Machine
end

section
/-! PROOFS. WAKE, the end of WAKING, and the end of a collection in PARK-INQUIRY (R159, R176, R177). -/

namespace Sys2Proof.Machine

section
variable {s : State}

theorem State.startWaking_eq (s : State) :
    s.startWaking =
      { s with
        sup :=
          { s.sup with station := .waking, option := none, wakeOwed := false, wakingTimer := some (s.now + 50000) }
        rows :=
          if s.straps.scanner then { s.rows with scannerOn := true, silence := .running (s.now + 5000) } else s.rows } := by
  by_cases fitted : s.straps.scanner = true
  · rw [if_pos fitted]
    exact if_pos fitted
  · rw [if_neg fitted]
    exact if_neg fitted

theorem State.takeWake_of_park (park : s.sup.station = .park) : s.takeWake = s.startWaking := by
  rw [State.takeWake, park]

theorem State.takeWake_of_inquiry (inquiry : s.sup.station = .parkInquiry) :
    s.takeWake = { s with sup := { s.sup with wakeOwed := true } } := by
  rw [State.takeWake, inquiry]

theorem State.takeWake_of_awake (awake : s.sup.station = .waking ∨ s.sup.station = .run) : s.takeWake = s := by
  rcases awake with waking | run
  · rw [State.takeWake, waking]
  · rw [State.takeWake, run]

/-- A test of R138 that opens no row leaves the Row Builder as it is. -/
theorem State.tryOpenRow_rows_of_closed (closed : s.tryOpenRow.rows.openRow = none) : s.tryOpenRow.rows = s.rows := by
  revert closed
  unfold State.tryOpenRow
  split
  · split_ifs
    · exact nofun
    · exact fun _ => rfl
  · exact fun _ => rfl

/-- An answer that is not owed a collection's end leaves it so. -/
theorem State.offerAnswer_final (unowed : ∀ outcome, s.ring.collection.final ≠ .owed outcome) :
    s.offerAnswer.ring.collection.final = s.ring.collection.final := by
  unfold State.offerAnswer
  dsimp only
  split_ifs
  · rfl
  · split
    next outcome owed => exact absurd owed (unowed outcome)
    next => rfl
    next => rfl

/-- The end of a collection in PARK-INQUIRY: PARK again, or the wake that is owed (R176). -/
theorem State.noticeCollection_of_ended (inquiry : s.sup.station = .parkInquiry) (ended : s.ring.collection.inFlight = false) :
    (s.noticeCollection true).sup.station = if s.sup.wakeOwed then .waking else .park := by
  rcases s.noticeCollection_cases true with ⟨-, flight | ⟨-, still⟩⟩ | ⟨-, park, -⟩ | ⟨parks, -, -, owed⟩ | ⟨wakes, -, -, owed⟩
  · exact absurd (flight.symm.trans ended) (by decide)
  · exact absurd ⟨inquiry, rfl⟩ still
  · exact nomatch park.symm.trans inquiry
  · rw [parks, owed]
    rfl
  · rw [wakes, State.startWaking_eq, owed]
    rfl

/-- The collection record after the report that the final answer has been sent (R159). -/
def State.collectionEnded (s : State) : State :=
  (s.sentSettled .collectEnd).setCollection
    { s.ring.collection with answerOutstanding := false, final := .absent, inFlight := false }

theorem State.collectEndSent_of_final {outcome : CollectOutcome} (final : outcome ≠ .busy) :
    (s.sentSettled .collectEnd).collectEndSent outcome = s.collectionEnded.offerAnswer := if_neg (by simpa using final)

end

/-- Settles O49: the WAKE by the station's state, the end of WAKING by R138, and the end of the collection by the wake owed. -/
theorem wakeAndWaking : Obligations.WakeAndWaking := by
  unfold Obligations.WakeAndWaking
  refine ⟨?park, ?inquiry, ?awake, ?runs, ?ended⟩
  case park =>
    intro s running park
    refine State.take_reaches running State.takeWake fun t same => ?_
    rwa [State.takeWake_of_park park, State.startWaking_eq] at same
  case inquiry =>
    intro s running inquiry
    refine State.take_reaches running State.takeWake fun t same => ?_
    rwa [State.takeWake_of_inquiry inquiry] at same
  case awake =>
    intro s running awake
    refine State.take_reaches running State.takeWake fun t same => ?_
    rwa [State.takeWake_of_awake awake] at same
  case runs =>
    intro s d running runs came closed
    refine State.takeExpiry_reaches running runs came State.wakingOver fun t same => ?_
    have opens := State.tryOpenRow_opens_iff (s := { s with sup := { s.sup with station := .run, wakingTimer := none } }) closed
    rw [State.wakingOver] at same
    rw [same.rows]
    refine ⟨?_, opens.trans ⟨fun ⟨page, fitted, _, paving⟩ => ⟨fitted, page, paving⟩,
      fun ⟨fitted, page, paving⟩ => ⟨page, fitted, rfl, paving⟩⟩, State.tryOpenRow_rows_of_closed⟩
    rw [State.tryOpenRow_rest] at same
    exact same
  case ended =>
    intro s c p f running flies only final inquiry flight
    refine exec_sendComplete_success running flies only fun t same => ?_
    have told : (s.sentSettled .collectEnd).reportSent (.collectEnd c) =
        s.collectionEnded.offerAnswer.noticeCollection true := by
      rw [← State.collectEndSent_of_final final, ← flight]
      rfl
    rw [told] at same
    obtain ⟨answer, busy, outstanding, ring⟩ := s.collectionEnded.offerAnswer_ring
    have absent := State.offerAnswer_final (s := s.collectionEnded) nofun
    have sup := s.collectionEnded.offerAnswer_sup
    refine ⟨?_, ?_, ?_⟩
    · rw [same.ring, State.noticeCollection_ring, ring]
      rfl
    · rw [same.ring, State.noticeCollection_ring, absent]
      rfl
    · rw [same.station, State.noticeCollection_of_ended (by rw [sup]; exact inquiry) (by rw [ring]; rfl), sup]
      rfl

end Sys2Proof.Machine
end

section
/-! PROOFS. What both resets leave: the values every block takes, and the first STATUS of a release (R178, R179). -/

namespace Sys2Proof.Machine

/-! ## The reset values of the parts -/

section

theorem quad_all_get {α : Type} (a : α) (z : Fin 4) : (Quad.all a).get z = a := by
  fin_cases z <;> rfl

theorem octet_all_get {α : Type} (a : α) (n : Fin 8) : (Octet.all a).get n = a := by
  fin_cases n <;> rfl

theorem TxQueue.cleared_get (k : StationKind) : TxQueue.cleared.get k = .empty := by
  cases k <;> rfl

theorem Feed.atReset_drive (d : Drive) : Feed.atReset.drive d = .atReset := by
  cases d <;> rfl

/-- The valve driver of a warm restart, by the driver it finds (R82). -/
theorem Driver.atWarmRestart_eq (before : Driver) :
    Driver.atWarmRestart before =
      match before with
      | .driving p => .dead (.one (opposite p.direction)) none none
      | _ => .neutral := by
  cases before <;> rfl

variable {s : State}

/-- While a reset is asserted no output is on. -/
theorem State.outputsOff_of_halted (halted : s.phase ≠ .running) : s.OutputsOff := by
  have held : (s.phase == Phase.running) = false := by simpa using halted
  refine ⟨fun z => ?_, ?_, fun d => ?_⟩
  · simp [State.zoneOutput, held]
  · simp [State.coil, held]
  · simp [State.driveOutput, held]

/-- A part that is not running after an event reports nothing. -/
theorem State.reported_of_halted {before after : State} (halted : after.phase ≠ .running) :
    State.reported before after = after := by
  unfold State.reported
  simp [halted]

theorem State.assertWarm_values (s : State) (timer : Option Nat) (pinHeld : Bool) (cause : ResetCause) :
    State.WarmValues s (s.assertWarm timer pinHeld cause) := by
  refine ⟨rfl, ⟨rfl, rfl, rfl, rfl, rfl, TxQueue.cleared_get, octet_all_get _⟩, ⟨rfl, rfl, rfl, rfl, rfl, rfl, rfl⟩,
    ⟨fun z => ?_, rfl, rfl, rfl⟩, ⟨rfl, rfl, rfl, rfl, rfl, rfl⟩, ⟨rfl, rfl, rfl, rfl, rfl, rfl, ?_⟩, fun d => ?_, rfl, rfl,
    rfl, rfl, rfl, rfl, rfl, ⟨rfl, rfl, rfl, rfl, rfl⟩⟩
  · have reset : (s.assertWarm timer pinHeld cause).heat.zones.get z = .atReset := quad_all_get _ z
    rw [reset]
    exact ⟨rfl, rfl, rfl⟩
  · exact Driver.atWarmRestart_eq s.level.driver
  · have reset : (s.assertWarm timer pinHeld cause).feed.drive d = .atReset := Feed.atReset_drive d
    rw [reset]
    exact ⟨rfl, rfl⟩

end

/-! ## The first report of a release -/

section
variable (s : State)

/-- A release judges each fitted zone and offers the first STATUS. -/
theorem State.firstReport_eq :
    s.firstReport =
      ((s.mapZones fun z r => r.judged (s.straps.zoneFitted z) s.pins.leakage).noteIf
        (zones.any fun z => (s.zone z).judgedTrips (s.straps.zoneFitted z) s.pins.leakage)).offerStatus := by
  refine congrArg State.offerStatus (State.forZones_eq (f := fun t z => t.judgeZone z)
    (g := fun z r => r.judged (s.straps.zoneFitted z) s.pins.leakage)
    (trips := fun z r => r.judgedTrips (s.straps.zoneFitted z) s.pins.leakage) fun t z identity pins => ?_)
  have straps : t.straps = s.straps := State.straps_congr identity
  rw [State.judgeZone_eq, straps, pins]
  rfl

/-- The state as it stands, its zones judged and the row told, before the STATUS is offered. -/
def State.judgedZones : State :=
  { s with
    heat := { s.heat with zones := .ofFn fun z => (s.zone z).judged (s.straps.zoneFitted z) s.pins.leakage }
    rows :=
      { s.rows with
        openRow :=
          if zones.any fun z => (s.zone z).judgedTrips (s.straps.zoneFitted z) s.pins.leakage then
            s.rows.openRow.map (·.setTripSeen)
          else s.rows.openRow } }

theorem State.firstReport_offers : s.firstReport = s.judgedZones.offerStatus := by
  rw [State.firstReport_eq, State.noteIf_eq]
  rfl

theorem State.judgedZones_zone (z : Fin 4) :
    s.judgedZones.heat.zones.get z = (s.zone z).judged (s.straps.zoneFitted z) s.pins.leakage :=
  quad_get_ofFn _ z

/-- With no row open the trips are told to nobody. -/
theorem State.judgedZones_rows (closed : s.rows.openRow = none) : s.judgedZones.rows = s.rows := by
  have told : (if zones.any fun z => (s.zone z).judgedTrips (s.straps.zoneFitted z) s.pins.leakage then
      s.rows.openRow.map (·.setTripSeen) else s.rows.openRow) = s.rows.openRow := by
    rw [closed]
    exact ite_self none
  exact congrArg (fun row => { s.rows with openRow := row }) told

/-- The first STATUS stands offered with the content of the state released. -/
theorem State.firstReport_newest : ∃ n, s.firstReport.line.queue.status.newest = some (.status s.firstReport.formStatus n) := by
  rw [State.firstReport_offers, s.judgedZones.offerStatus_sameButStatus.formStatus]
  exact ⟨_, s.judgedZones.offerStatus_newest⟩

end

/-! ## Warm restart -/

section
variable {s : State}

/-- The state as a warm restart is released, before its zones are judged. -/
def State.warmReleased (s : State) (cause : ResetCause) : State :=
  { s with
    phase := .running
    travel := s.travel.started s.straps s.now
    heat := s.heat.started s.now
    load := s.load.started s.now
    level := s.level.started s.straps s.now
    feed := s.feed.started s.straps s.now
    rows := s.rows.started s.straps s.now
    sup := { s.sup.started s.now with resetCause := cause } }

theorem State.releaseWarm_eq (s : State) (cause : ResetCause) : s.releaseWarm cause = (s.warmReleased cause).firstReport := rfl

theorem Levelling.started_cadence (l : Levelling) (p : Straps) (now : Nat) : (l.started p now).cadence = some (now + 1000) := by
  unfold Levelling.started
  cases p.levelling <;> rfl

/-- What a release of a warm restart gives, whichever event releases it. -/
theorem State.releaseWarm_values (s : State) (cause : ResetCause) {t : State} (released : s.releaseWarm cause = t) :
    t.phase = .running ∧ t.sup.resetCause = cause ∧ t.sup.station = s.sup.station ∧ t.identity = s.identity ∧
      t.ring = s.ring ∧ t.settings = s.settings ∧
      t.travel =
        { s.travel with
          speedTimer := if s.straps.encoder then some (s.now + 1000) else none
          cadence := some (s.now + 1000) } ∧
      t.heat.supplyTimer = some (s.now + 1000) ∧ t.heat.sensorTimer = some (s.now + 1000) ∧
      t.load = { s.load with idleTimer := some (s.now + 10000) } ∧ t.level.cadence = some (s.now + 1000) ∧
      t.feed.cadence = some (s.now + 5000) ∧ t.sup.cadence = some (s.now + 10000) ∧
      ∃ n, t.line.queue.status.newest = some (.status t.formStatus n) := by
  have newest := (s.warmReleased cause).firstReport_newest
  rw [← s.releaseWarm_eq, released] at newest
  rw [s.releaseWarm_eq, State.firstReport_offers] at released
  subst released
  exact ⟨rfl, rfl, rfl, rfl, rfl, rfl, rfl, rfl, rfl, rfl, s.level.started_cadence s.straps s.now, rfl, rfl, newest⟩

/-- A RESTART and the pin each assert a warm restart in a running part. -/
theorem exec_warmRestart {c : Instr} (running : s.phase = .running) (asserts : c = .restart ∨ c = .restartPinActive) :
    exec c s =
      .next
        (if c = .restart then s.assertWarm (some (s.now + 100)) false .restartCommand
        else s.assertWarm none true .restartPin) := by
  rcases asserts with rfl | rfl
  · have taken : s.take State.takeRestart = s.takeRestart := by
      rw [State.take_of_running running]
      exact State.reported_of_halted fun h => by cases h
    exact congrArg Host.Outcome.next taken
  · exact congrArg Host.Outcome.next (State.restartPinOn_of_running running)

variable {timer : Option Nat} {held : Bool} {cause : ResetCause}

theorem State.restartPinOn_of_warm (warm : s.phase = .warm timer held cause) :
    s.restartPinOn = { s with phase := .warm timer true .restartPin } := by
  simp only [State.restartPinOn, warm]

theorem State.restartTimeOver_of_warm {d : Nat} (warm : s.phase = .warm (some d) held cause) (reached : d ≤ s.now) :
    s.restartTimeOver = if held then { s with phase := .warm none true cause } else s.releaseWarm cause := by
  simp only [State.restartTimeOver, warm, if_pos reached]

theorem State.restartPinOff_of_prolonged {d : Nat} (warm : s.phase = .warm (some d) true cause) :
    s.restartPinOff = { s with phase := .warm (some d) false cause } := by
  simp only [State.restartPinOff, warm]

theorem State.restartPinOff_of_held (warm : s.phase = .warm none true cause) : s.restartPinOff = s.releaseWarm cause := by
  simp only [State.restartPinOff, warm]

end

/-- Settles O50: the assertion is one operation for both causes, and so is the release; by the phase each event finds. -/
theorem warmRestartAssertsAndReleases : Obligations.WarmRestartAssertsAndReleases := by
  unfold Obligations.WarmRestartAssertsAndReleases
  refine ⟨?asserted, ?during, ?halted⟩
  case asserted =>
    intro s c running asserts
    refine ⟨_, exec_warmRestart running asserts, ?_⟩
    by_cases command : c = .restart
    · rw [if_pos command, if_pos command]
      exact ⟨State.outputsOff_of_halted fun h => (by cases h), s.assertWarm_values _ _ _, rfl⟩
    · rw [if_neg command, if_neg command]
      exact ⟨State.outputsOff_of_halted fun h => (by cases h), s.assertWarm_values _ _ _, rfl⟩
  case during =>
    intro s timer held cause warm
    refine ⟨congrArg Host.Outcome.next (State.restartPinOn_of_warm warm), ?prolonged, ?pinEnds, ?released⟩
    case prolonged =>
      rintro d rfl reached rfl
      exact congrArg Host.Outcome.next ((State.restartTimeOver_of_warm warm reached).trans (if_pos rfl))
    case pinEnds =>
      rintro d rfl rfl
      exact congrArg Host.Outcome.next (State.restartPinOff_of_prolonged warm)
    case released =>
      rintro c (⟨rfl, rfl, d, rfl, reached⟩ | ⟨rfl, rfl, rfl⟩)
      · exact ⟨_, congrArg Host.Outcome.next ((State.restartTimeOver_of_warm warm reached).trans (if_neg Bool.false_ne_true)),
          s.releaseWarm_values cause rfl⟩
      · exact ⟨_, congrArg Host.Outcome.next (State.restartPinOff_of_held warm), s.releaseWarm_values cause rfl⟩
  case halted =>
    intro s c halted time pinOn pinOff asserts releases
    refine exec_halted halted ?_
    rintro (h | h | h | h | ⟨straps, h⟩)
    exacts [time h, pinOn h, pinOff h, asserts h, releases straps h]

/-! ## Power-on reset -/

section
variable {s : State} {since : Nat}

/-- The state as power-on reset is released on these straps, before its zones are judged. -/
def State.powerReleased (s : State) (straps : BitVec 18) : State :=
  { State.poweredOn straps s.pins s.now with pending := s.pending }

theorem State.releasePowerOn_of_elapsed (straps : BitVec 18) (phase : s.phase = .powerOn since)
    (elapsed : since + 500 ≤ s.now) : s.releasePowerOn straps = (s.powerReleased straps).firstReport := by
  have time : since + Config.powerOnTime ≤ s.now := elapsed
  simp only [State.releasePowerOn, phase, if_pos time]
  rfl

theorem State.releasePowerOn_of_early (straps : BitVec 18) (phase : s.phase = .powerOn since) (early : s.now < since + 500) :
    s.releasePowerOn straps = s := by
  have time : ¬since + Config.powerOnTime ≤ s.now := Nat.not_le.2 early
  simp only [State.releasePowerOn, phase, if_neg time]

theorem State.releasePowerOn_of_other (straps : BitVec 18) (other : ∀ since, s.phase ≠ .powerOn since) :
    s.releasePowerOn straps = s := by
  unfold State.releasePowerOn
  split
  next since phase => exact absurd phase (other since)
  · rfl

/-- A zone at its reset values, judged: an active earth-leakage input trips it when it is fitted. -/
theorem Zone.atReset_judged (fitted leak : Bool) :
    Zone.atReset.judged fitted leak =
      { Zone.atReset with
        state := if leak = true ∧ fitted = true then .tripped .leakage else .idle
        cut := leak && fitted } := by
  cases fitted <;> cases leak <;> rfl

/-- The side and its driver at the release of power-on reset (R82, R83). -/
theorem Levelling.atPowerOn_values (p : Straps) (now : Nat) {l : Levelling}
    (released : (Levelling.atReset (.atPowerOn p)).started p now = l) :
    l.mode = .off ∧ l.condition = .none ∧ l.causes = ⟨false, false, false⟩ ∧ l.gradeRef = 0 ∧ l.slopeRef = 0 ∧
      l.captured = false ∧ l.partner = none ∧ l.page = none ∧ l.pending = false ∧ l.resume = none ∧ l.settleMark = none ∧
      l.settleCapture = false ∧ l.redo = false ∧ l.cadence = some (now + 1000) ∧
      (p.levelling = true →
        l.grade = ⟨none, true, some (now + 2000)⟩ ∧ l.slope = ⟨none, true, some (now + 2000)⟩ ∧
          l.periodTimer = some (now + 1000)) ∧
      l.driver = (if p.levelling then .dead .both (some (now + 5000)) none else .neutral) := by
  unfold Levelling.started Driver.atPowerOn at released
  cases levels : p.levelling with
  | false =>
    rw [levels] at released
    subst released
    exact ⟨rfl, rfl, rfl, rfl, rfl, rfl, rfl, rfl, rfl, rfl, rfl, rfl, rfl, rfl, fun h => absurd h Bool.false_ne_true, rfl⟩
  | true =>
    rw [levels] at released
    subst released
    exact ⟨rfl, rfl, rfl, rfl, rfl, rfl, rfl, rfl, rfl, rfl, rfl, rfl, rfl, rfl, fun _ => ⟨rfl, rfl, rfl⟩, rfl⟩

/-- The drives and their sensors at the release of power-on reset (R117, R118). -/
theorem Feed.atPowerOn_values (p : Straps) (now : Nat) {f : Feed} (released : Feed.atReset.started p now = f) :
    (∀ d, f.drive d =
        { mode := .off, condition := .none, command := 0, manualTarget := 0, stallTimer := none, holdTimer := none
          period := none, lastPulse := none }) ∧
      f.page = none ∧ f.pending = false ∧ f.view = [] ∧ f.cadence = some (now + 5000) ∧
      (p.levelSensor = true → f.level = ⟨none, true, some (now + 3000)⟩) ∧
      (p.owner = true → f.tunnel = ⟨none, true, some (now + 3000)⟩ ∧ f.periodTimer = some (now + 1000)) := by
  subst released
  refine ⟨fun d => ?_, rfl, rfl, rfl, rfl, fun sensor => ?_, fun owner => ⟨?_, ?_⟩⟩
  · cases d <;> rfl
  · exact if_pos sensor
  · exact if_pos owner
  · exact if_pos owner

/-- Every block has its power-on values at the release of power-on reset. -/
theorem State.powerReleased_values (s : State) (straps : BitVec 18) :
    State.PowerOnValues (s.powerReleased straps).firstReport (sampleStraps straps) s.pins s.now := by
  have newest := (s.powerReleased straps).firstReport_newest
  rw [State.firstReport_offers] at newest ⊢
  refine ⟨⟨rfl, rfl, rfl, rfl⟩, ⟨rfl, rfl, rfl, rfl, rfl, rfl, fun k other => ?queue, octet_all_get _⟩,
    ⟨rfl, rfl, rfl, rfl, rfl, rfl, rfl, rfl, rfl, rfl, rfl, rfl, rfl, rfl⟩,
    ⟨fun z => ?zone, rfl, rfl, rfl, rfl, rfl, rfl, rfl, rfl⟩, rfl, ?level, ?feed, ?rows,
    ⟨rfl, rfl, rfl, rfl, rfl, rfl, rfl, rfl, rfl, rfl, rfl, rfl⟩, rfl, ⟨rfl, rfl, rfl, rfl, rfl, rfl, rfl, rfl, rfl⟩, newest⟩
  case queue =>
    cases k with
    | status => exact absurd rfl other
    | _ => rfl
  case zone =>
    have reset : (s.powerReleased straps).zone z = .atReset := quad_all_get _ z
    have judged := (s.powerReleased straps).judgedZones_zone z
    rw [reset, Zone.atReset_judged] at judged
    rw [State.offerStatus_heat, judged]
    exact ⟨rfl, rfl, rfl, rfl, rfl, rfl, rfl⟩
  case level =>
    exact Levelling.atPowerOn_values (sampleStraps straps) s.now rfl
  case feed =>
    exact Feed.atPowerOn_values (sampleStraps straps) s.now rfl
  case rows =>
    exact State.judgedZones_rows _ rfl

end

/-- Settles O51: the release in a part whose supply has held for 50 ms, and what each other phase makes of these events. -/
theorem powerOnResetTakesAll : Obligations.PowerOnResetTakesAll := by
  unfold Obligations.PowerOnResetTakesAll
  refine ⟨?asserted, ?during, ?other⟩
  case asserted =>
    intro s
    exact ⟨_, rfl, State.outputsOff_of_halted fun h => (by cases h), rfl⟩
  case during =>
    intro s since phase
    have halted : s.phase ≠ .running := fun h => by rw [phase] at h; cases h
    refine ⟨congrArg Host.Outcome.next ?pinOn, congrArg Host.Outcome.next ?pinOff,
      congrArg Host.Outcome.next (State.take_of_not_running halted _), congrArg Host.Outcome.next ?time,
      fun straps early => congrArg Host.Outcome.next (State.releasePowerOn_of_early straps phase early),
      fun straps elapsed => ⟨_, congrArg Host.Outcome.next (State.releasePowerOn_of_elapsed straps phase elapsed), ?pending,
        s.powerReleased_values straps⟩⟩
    case pinOn => simp only [State.restartPinOn, phase]
    case pinOff => simp only [State.restartPinOff, phase]
    case time => simp only [State.restartTimeOver, phase]
    case pending =>
      rw [State.firstReport_offers]
      rfl
  case other =>
    intro s straps other
    exact congrArg Host.Outcome.next (State.releasePowerOn_of_other straps other)

end Sys2Proof.Machine
end

section
/-! PROOFS. The HEAT page that waits (R58) and what a loss of supply leaves (R45, R69, R78). -/

namespace Sys2Proof.Machine

/-! ## The page that waits -/

section
variable (s : State)

/-- The page after a HEAT page that waits, when one does, has been applied. -/
def State.pageNext : Option HeatPage :=
  if s.heat.pending then
    (match s.settings.heat with
      | some held => some held.page
      | none => s.heat.page)
  else s.heat.page

theorem State.applyHeatPage_heat :
    s.applyHeatPage.heat = { s.heat with page := s.pageNext, pending := s.heat.pending && s.settings.heat.isNone } := by
  unfold State.applyHeatPage State.pageNext
  cases pending : s.heat.pending with
  | false => exact congrArg (fun p => { s.heat with pending := p }) pending
  | true =>
    cases s.settings.heat with
    | none => exact congrArg (fun p => { s.heat with pending := p }) pending
    | some held => rfl

/-- Beside the heater's page and mark it asks for a STATUS. -/
theorem State.applyHeatPage_rest :
    s.applyHeatPage = { s with heat := s.applyHeatPage.heat, sup := { s.sup with offerDue := s.applyHeatPage.sup.offerDue } } := by
  unfold State.applyHeatPage
  split_ifs
  · split <;> rfl
  · rfl

end

/-! ## The loss at the Load Share Unit -/

section
variable {s : State}

/-- The share record as NO-SUPPLY is entered, before the shed pair is settled. -/
def Load.unsupplied (l : Load) (now : Nat) : Load := { l with ownDemand := 0, share := 0, idleTimer := some (now + 10000) }

theorem State.loadNoSupply_of_shedding (standing : s.load.standing = true) (shedding : s.load.status = .shedding) :
    s.loadNoSupply = ({ s with load := { s.load.unsupplied s.now with status := .shed } } : State).offerShedAck := by
  unfold State.loadNoSupply Load.unsupplied
  simp only [standing, shedding]
  rfl

theorem State.loadNoSupply_of_other (other : ¬(s.load.standing = true ∧ s.load.status = .shedding)) :
    s.loadNoSupply =
      { s with load := { s.load.unsupplied s.now with status := if s.load.standing then s.load.status else .none } } := by
  cases standing : s.load.standing with
  | true =>
    cases status : s.load.status with
    | shedding => exact absurd ⟨standing, status⟩ other
    | none =>
      unfold State.loadNoSupply Load.unsupplied
      simp only [standing, status]
      rfl
    | shed =>
      unfold State.loadNoSupply Load.unsupplied
      simp only [standing, status]
      rfl
  | false =>
    cases status : s.load.status <;> unfold State.loadNoSupply Load.unsupplied <;> simp only [standing, status] <;> rfl

/-- What the loss leaves of the part beside the share record and the line's queue. -/
theorem State.loadNoSupply_keeps (s : State) :
    s.loadNoSupply = { s with load := s.loadNoSupply.load, line := s.loadNoSupply.line } := by
  by_cases shedding : s.load.standing = true ∧ s.load.status = .shedding
  · rw [State.loadNoSupply_of_shedding shedding.1 shedding.2]
    rfl
  · rw [State.loadNoSupply_of_other shedding]

/-- What the loss leaves of the share record, whatever the shed pair. -/
theorem State.loadNoSupply_load (s : State) :
    s.loadNoSupply.load =
      { s.load.unsupplied s.now with status := s.loadNoSupply.load.status, ack := s.loadNoSupply.load.ack } := by
  by_cases shedding : s.load.standing = true ∧ s.load.status = .shedding
  · rw [State.loadNoSupply_of_shedding shedding.1 shedding.2]
    rfl
  · rw [State.loadNoSupply_of_other shedding]

/-! ## The loss at the Heater Controller -/

/-- The heater record of a supply lost, the page that waits still to be applied. -/
def Heat.lost (h : Heat) : Heat :=
  { h with
    zones := .ofFn fun z => if h.supply = .running then (h.zones.get z).loseSupply else h.zones.get z
    supply := .lost
    runCount := 0
    slot := 0
    supplyTimer := none }

theorem State.loseSupply_eq (s : State) : s.loseSupply = ({ s with heat := s.heat.lost } : State).applyHeatPage.loadNoSupply := by
  unfold State.loseSupply Heat.lost
  by_cases runs : s.heat.supply = .running
  · rw [if_pos ((s.windowRuns_iff).2 runs)]
    simp only [runs, if_true]
    rfl
  · rw [(s.windowRuns_eq_false_iff).2 runs]
    simp only [runs, if_false, Bool.false_eq_true]
    rfl

theorem Zone.loseSupply_eq (r : Zone) :
    r.loseSupply =
      { r with out := false, duty := 0, cut := false, state := if r.state = .regulating then .idle else r.state } := by
  unfold Zone.loseSupply
  cases r.state <;> rfl

theorem Heat.lost_zone (h : Heat) (z : Fin 4) :
    h.lost.zones.get z =
      if h.supply = .running then
        { h.zones.get z with
          out := false, duty := 0, cut := false
          state := if (h.zones.get z).state = .regulating then .idle else (h.zones.get z).state }
      else h.zones.get z := by
  rw [← Zone.loseSupply_eq]
  exact quad_get_ofFn _ z

/-- The station after a loss of supply, its page applied and its share record still to be settled. -/
def State.unpowered (s : State) : State := ({ s with heat := s.heat.lost } : State).applyHeatPage

theorem State.unpowered_heat (s : State) :
    s.unpowered.heat = { s.heat.lost with page := s.pageNext, pending := s.heat.pending && s.settings.heat.isNone } :=
  State.applyHeatPage_heat _

theorem State.unpowered_rest (s : State) :
    s.unpowered = { s with heat := s.unpowered.heat, sup := { s.sup with offerDue := s.unpowered.sup.offerDue } } :=
  State.applyHeatPage_rest _

theorem State.heating_of_lost (lost : s.heat.supply = .lost) : s.heating = .noSupply := by
  unfold State.heating
  rw [lost]
  rfl

theorem State.supplyExpired_of_lost (lost : s.heat.supply = .lost) :
    s.supplyExpired = { s with heat := { s.heat with runCount := 0, supplyTimer := none } } := by
  unfold State.supplyExpired
  rw [lost]
  rfl

theorem State.supplyExpired_of_supplied (supplied : s.heat.supply ≠ .lost) : s.supplyExpired = s.unpowered.loadNoSupply := by
  unfold State.supplyExpired
  rw [if_neg (by simpa using supplied), State.loseSupply_eq]
  rfl

end

/-- Settles O28: the heater's part, the page that waits, and the share record with its shed pair. -/
theorem supplyLossEndsWindow : Obligations.SupplyLossEndsWindow := by
  unfold Obligations.SupplyLossEndsWindow
  refine ⟨?supplied, ?lost⟩
  case supplied =>
    intro s d running supplied timer reached
    refine State.takeExpiry_reaches running timer reached _ fun t same => ?_
    rw [State.supplyExpired_of_supplied supplied] at same
    have heat : t.heat = { s.heat.lost with page := s.pageNext, pending := s.heat.pending && s.settings.heat.isNone } := by
      rw [same.heat, State.loadNoSupply_keeps]
      exact s.unpowered_heat
    have load : s.unpowered.load = s.load := (congrArg State.load s.unpowered_rest).trans rfl
    have now : s.unpowered.now = s.now := (congrArg State.now s.unpowered_rest).trans rfl
    have shared : t.load = { s.load.unsupplied s.now with status := t.load.status, ack := t.load.ack } := by
      have kept := s.unpowered.loadNoSupply_load
      rw [load, now] at kept
      rw [same.load]
      exact kept
    refine ⟨by rw [heat]; rfl, State.heating_of_lost (by rw [heat]; rfl), by rw [heat]; rfl, by rw [heat]; rfl, by rw [heat]; rfl,
      fun z => ?zone, by rw [shared]; rfl, by rw [shared]; rfl, by rw [shared]; rfl, by rw [shared]; rfl, by rw [shared]; rfl,
      fun shedding => ?shedding, fun other => ?other, fun held pending page => ?applied, fun nothing => ?kept, ?level, ?feed,
      ?travel, ?rows, ?ring⟩
    case zone =>
      rw [heat]
      exact s.heat.lost_zone z
    case shedding =>
      obtain ⟨standing, status⟩ := shedding
      rw [State.loadNoSupply_of_shedding (load ▸ standing) (load ▸ status)] at same
      have supply : s.unpowered.heat.supply = .lost := by
        rw [s.unpowered_heat]
        rfl
      have idle : s.unpowered.windowRuns = false := (State.windowRuns_eq_false_iff _).2 (by rw [supply]; nofun)
      have slot := congrArg TxSlot.newest (same.slot .shedAck nofun)
      rw [State.offerShedAck_newest] at slot
      exact ⟨congrArg Load.status same.load, congrArg Load.ack same.load,
        slot.trans (congrArg₂ (fun h w => some (Content.shedAck ⟨h, w⟩)) (State.heating_of_lost supply) idle)⟩
    case other =>
      rw [State.loadNoSupply_of_other (load ▸ other)] at same
      refine ⟨(congrArg Load.status same.load).trans ?_, (congrArg Load.ack same.load).trans ?_,
        (same.slot .shedAck nofun).trans ?_⟩
      · rw [load]
      · rw [load]
        rfl
      · exact (congrArg (fun u => u.line.queue.shedAck) s.unpowered_rest).trans rfl
    case applied =>
      rw [heat]
      refine ⟨?_, ?_⟩
      · show s.pageNext = _
        rw [State.pageNext, if_pos pending, page]
      · show (s.heat.pending && s.settings.heat.isNone) = false
        rw [page]
        exact Bool.and_false _
    case kept =>
      rw [heat]
      show s.pageNext = _
      rw [State.pageNext, nothing]
      rfl
    case level => rw [same.level, State.loadNoSupply_keeps, s.unpowered_rest]
    case feed => rw [same.feed, State.loadNoSupply_keeps, s.unpowered_rest]
    case travel => rw [same.travel, State.loadNoSupply_keeps, s.unpowered_rest]
    case rows => rw [same.rows, State.loadNoSupply_keeps, s.unpowered_rest]
    case ring => rw [same.ring, State.loadNoSupply_keeps, s.unpowered_rest]
  case lost =>
    intro s d running lost timer reached
    refine State.takeExpiry_reaches running timer reached _ fun t same => ?_
    rw [State.supplyExpired_of_lost lost] at same
    exact same

end Sys2Proof.Machine
end

section
/-! PROOFS. What a window's beginning does (R46, R48 to R52, R63 to R66, R75), at a boundary and at a window start. -/

namespace Sys2Proof.Machine

/-! ## The allocation in turn (R50) -/

/-- Each zone in its turn has its demand or what the zones before it have left. -/
theorem allocate_find (f : Nat → Nat) :
    ∀ (order : List Nat) (share i : Nat) (z : Nat), order.Nodup → order[i]? = some z →
      (allocate share (order.map fun z => (z, f z))).find? (fun p => p.1 == z) =
        some (z, min (f z) (share - ((order.take i).map f).sum))
  | [], _, _, _, _, here => by simp at here
  | a :: order, share, 0, z, _, here => by
    obtain rfl : a = z := by simpa using here
    simp [allocate]
  | a :: order, share, i + 1, z, distinct, here => by
    rw [List.nodup_cons] at distinct
    obtain ⟨fresh, distinct⟩ := distinct
    rw [List.getElem?_cons_succ] at here
    have differs : a ≠ z := fun same => fresh (same ▸ List.mem_of_getElem? here)
    have rest := allocate_find f order (share - min (f a) share) i z distinct here
    simp only [List.map_cons, allocate, List.find?_cons, beq_eq_false_iff_ne.2 differs, rest, List.take_succ_cons, List.sum_cons]
    congr 3
    omega

theorem sum_ite_eq_le (k v : Nat) : ∀ l : List (Fin 4), l.Nodup → (l.map fun z : Fin 4 => if k = z.val then v else 0).sum ≤ v
  | [], _ => Nat.zero_le v
  | z :: l, distinct => by
    rw [List.nodup_cons] at distinct
    rw [List.map_cons, List.sum_cons]
    by_cases here : k = z.val
    · have others : (l.map fun z : Fin 4 => if k = z.val then v else 0).sum = 0 := by
        refine List.sum_eq_zero fun x inside => ?_
        obtain ⟨y, member, rfl⟩ := List.mem_map.1 inside
        exact if_neg fun again => distinct.1 (Fin.ext (here.symm.trans again) ▸ member)
      rw [if_pos here, others]
      exact le_rfl
    · rw [if_neg here, Nat.zero_add]
      exact sum_ite_eq_le k v l distinct.2

/-- The amount a list of pairs gives the first entry of a zone. -/
def amountOf (l : List (Nat × Nat)) (z : Fin 4) : Nat :=
  match l.find? fun p => p.1 == z.val with
  | some p => p.2
  | none => 0

theorem amountOf_cons_le (p : Nat × Nat) (l : List (Nat × Nat)) (z : Fin 4) :
    amountOf (p :: l) z ≤ (if p.1 = z.val then p.2 else 0) + amountOf l z := by
  unfold amountOf
  rw [List.find?_cons]
  by_cases here : p.1 = z.val
  · simp [here]
  · simp [here, beq_eq_false_iff_ne.2 here]

/-- What distinct zones are given together is at most all that is given. -/
theorem sum_amountOf_le (zs : List (Fin 4)) (distinct : zs.Nodup) :
    ∀ l : List (Nat × Nat), (zs.map (amountOf l)).sum ≤ (l.map (·.2)).sum
  | [] => by
    rw [List.sum_eq_zero fun n given => ?_]
    · exact Nat.zero_le _
    · obtain ⟨z, _, rfl⟩ := List.mem_map.1 given
      rfl
  | p :: l => by
    calc
      (zs.map (amountOf (p :: l))).sum ≤ (zs.map fun z => (if p.1 = z.val then p.2 else 0) + amountOf l z).sum :=
        List.sum_le_sum fun z _ => amountOf_cons_le p l z
      _ = (zs.map fun z : Fin 4 => if p.1 = z.val then p.2 else 0).sum + (zs.map (amountOf l)).sum := List.sum_map_add
      _ ≤ p.2 + (l.map (·.2)).sum := Nat.add_le_add (sum_ite_eq_le p.1 p.2 zs distinct) (sum_amountOf_le zs distinct l)
      _ = ((p :: l).map (·.2)).sum := by simp

/-! ## The allocation's order -/

section
variable {s : State}

theorem State.order_rotating (s : State) : (s.heat.order == .rotating) = s.rotates := by
  unfold Heat.order State.rotates
  cases s.heat.page <;> rfl

theorem zoneInTurn_injective {rotates : Bool} {start : Fin 4} {fitted i j : Nat} (hi : i < fitted) (hj : j < fitted)
    (same : zoneInTurn rotates start fitted i = zoneInTurn rotates start fitted j) : i = j := by
  cases rotates with
  | false => exact same
  | true =>
    have congruent : i ≡ j [MOD fitted] := Nat.ModEq.add_left_cancel' start.val same
    exact Nat.ModEq.eq_of_lt_of_lt congruent hi hj

theorem allocationOrder_eq (s : State) (start : Fin 4) (fitted : Nat) :
    allocationOrder s.heat.order start.val fitted = (List.range fitted).map (zoneInTurn s.rotates start fitted) := by
  unfold allocationOrder
  rw [State.order_rotating]
  rfl

theorem zoneInTurn_nodup (rotates : Bool) (start : Fin 4) (fitted : Nat) :
    ((List.range fitted).map (zoneInTurn rotates start fitted)).Nodup := by
  refine List.Nodup.map_on (fun i hi j hj same => ?_) List.nodup_range
  exact zoneInTurn_injective (List.mem_range.1 hi) (List.mem_range.1 hj) same

theorem State.demandAt_eq (s : State) (n : Nat) : (s.heat.zones.toList.map (·.demand)).getD n 0 = s.demandAt n := by
  match n with
  | 0 => rfl
  | 1 => rfl
  | 2 => rfl
  | 3 => rfl
  | n + 4 =>
    unfold State.demandAt
    rw [dif_neg (by omega)]
    rfl

/-- The pairs that the share is allocated to, in the zones' turn. -/
theorem State.demands_eq (s : State) :
    s.heat.demands (allocationOrder s.heat.order s.heat.rotationStart.val s.straps.fitted) =
      ((List.range s.straps.fitted).map (zoneInTurn s.rotates s.heat.rotationStart s.straps.fitted)).map fun z =>
        (z, s.demandAt z) := by
  unfold Heat.demands
  rw [allocationOrder_eq]
  exact List.map_congr_left fun z _ => Prod.ext rfl (s.demandAt_eq z)

theorem State.allocation_eq_amountOf (s : State) (z : Fin 4) :
    s.allocation z =
      amountOf (allocate s.load.share
        (s.heat.demands (allocationOrder s.heat.order s.heat.rotationStart.val s.straps.fitted))) z := rfl

/-- A fitted zone's allocation, by its place in the turn (R50). -/
theorem State.allocation_in_turn {i : Nat} {z : Fin 4} (inside : i < s.straps.fitted)
    (place : z.val = zoneInTurn s.rotates s.heat.rotationStart s.straps.fitted i) :
    s.allocation z =
      min (s.heat.zones.get z).demand
        (s.load.share -
          ((List.range i).map fun j =>
            s.demandAt (zoneInTurn s.rotates s.heat.rotationStart s.straps.fitted j)).sum) := by
  have here : ((List.range s.straps.fitted).map (zoneInTurn s.rotates s.heat.rotationStart s.straps.fitted))[i]? = some z.val := by
    simp [inside, place]
  have found := allocate_find s.demandAt _ s.load.share i z.val (zoneInTurn_nodup _ _ _) here
  have own : s.demandAt z.val = (s.heat.zones.get z).demand := dif_pos z.isLt
  rw [State.allocation_eq_amountOf, State.demands_eq, amountOf, found, own]
  simp only [← List.map_take, List.take_range, Nat.min_eq_left inside.le, List.map_map]
  rfl

/-- The energy that the fitted zones' duties place is at most 50 times the share (R50, R51). -/
theorem State.energy_le (s : State) (rating : Nat) :
    ((zones.filter s.straps.zoneFitted).map fun z => dutyOf (s.allocation z) rating * rating).sum ≤ 50 * s.load.share := by
  have distinct : (zones.filter s.straps.zoneFitted).Nodup := List.Nodup.filter _ (by decide)
  calc
    ((zones.filter s.straps.zoneFitted).map fun z => dutyOf (s.allocation z) rating * rating).sum ≤
        ((zones.filter s.straps.zoneFitted).map fun z => 50 * s.allocation z).sum :=
      List.sum_le_sum fun z _ => dutyOf_mul_le _ _
    _ = 50 * ((zones.filter s.straps.zoneFitted).map s.allocation).sum := List.sum_map_mul_left _ _ _
    _ ≤ 50 * s.load.share :=
      Nat.mul_le_mul_left 50 ((sum_amountOf_le _ distinct _).trans (allocate_sum_le _ _))

/-! ## Steps 2 to 5 -/

/-- The station after steps 2 and 3 of a window's beginning. -/
def State.readied (s : State) : State := s.applyHeatPage.settleShed

theorem State.settleShed_heat' (s : State) : s.settleShed.heat = s.heat := by
  unfold State.settleShed
  dsimp only
  split
  · split_ifs <;> rfl
  all_goals rfl

theorem State.readied_heat (s : State) :
    s.readied.heat = { s.heat with page := s.pageNext, pending := s.heat.pending && s.settings.heat.isNone } :=
  s.applyHeatPage.settleShed_heat'.trans s.applyHeatPage_heat

theorem State.readied_frame (s : State) : State.HeatFrame s s.readied :=
  s.applyHeatPage_frame.trans (State.settleShed_frame _)

theorem State.readied_straps (s : State) : s.readied.straps = s.straps := State.straps_congr (by rw [s.readied_frame])

theorem State.demandZones_zone (s : State) (z : Fin 4) :
    s.demandZones.heat.zones.get z =
      { (s.heat.zones.get z).atBoundary (s.straps.zoneFitted z) s.heating.draws with
        demand := s.demandOf s.heating ((s.heat.zones.get z).atBoundary (s.straps.zoneFitted z) s.heating.draws) } :=
  State.mapZones_zone _ z

/-- A zone after steps 4 and 5. -/
theorem State.demanded_zone (s : State) (z : Fin 4) :
    s.demanded.heat.zones.get z =
      { (s.heat.zones.get z).atBoundary (s.straps.zoneFitted z) s.readied.heating.draws with
        demand :=
          s.readied.demandOf s.readied.heating
            ((s.heat.zones.get z).atBoundary (s.straps.zoneFitted z) s.readied.heating.draws) } := by
  have zones : s.readied.heat.zones = s.heat.zones := by rw [State.readied_heat]
  have demanded := s.readied.demandZones_zone z
  rw [zones, State.readied_straps] at demanded
  exact demanded

/-- A zone with the duty of its allocation loaded. -/
def State.loadedZone (s : State) (z : Fin 4) (r : Zone) : Zone :=
  if s.straps.zoneFitted z then { r with duty := dutyOf (s.allocation z) s.straps.rating } else r

/-- A zone after step 7. -/
theorem State.loadWindow_zone (s : State) (z : Fin 4) :
    s.loadWindow.heat.zones.get z =
      if s.straps.zoneFitted z then
        ({ s.heat.zones.get z with duty := dutyOf (s.allocation z) s.straps.rating } : Zone).setOutput 0 (s.straps.offset z)
      else s.heat.zones.get z := by
  have loaded : (s.mapZones s.loadedZone).heat.zones.get z = s.loadedZone z (s.heat.zones.get z) := State.mapZones_zone _ z
  refine (State.mapZones_zone _ z).trans ?_
  show (if s.straps.zoneFitted z then ((s.mapZones s.loadedZone).heat.zones.get z).setOutput 0 (s.straps.offset z)
    else (s.mapZones s.loadedZone).heat.zones.get z) = _
  rw [loaded, State.loadedZone]
  by_cases fitted : s.straps.zoneFitted z = true
  · simp only [if_pos fitted]
  · simp only [if_neg fitted]

/-- The station after steps 2 to 6 of a window's beginning. -/
def State.allotted (s : State) : State := s.demanded.takeShare

theorem State.allotted_heat (s : State) : s.allotted.heat = s.demanded.heat := State.takeShare_heat _

theorem State.allotted_straps (s : State) : s.allotted.straps = s.straps := by
  refine State.straps_congr ?_
  calc
    s.allotted.identity = s.demanded.identity := State.HeatFrame.identity s.demanded.takeShare_frame
    _ = s.readied.identity := rfl
    _ = s.identity := State.HeatFrame.identity s.readied_frame

/-- A zone after steps 7 and 8. -/
theorem State.beginWindow_zone (s : State) (z : Fin 4) :
    s.beginWindow.heat.zones.get z =
      if s.straps.zoneFitted z then
        ({ s.demanded.heat.zones.get z with duty := dutyOf (s.allotted.allocation z) s.straps.rating } : Zone).setOutput 0
          (s.straps.offset z)
      else s.demanded.heat.zones.get z := by
  have rotated : s.beginWindow.heat.zones = s.allotted.loadWindow.heat.zones :=
    congrArg (fun u => u.heat.zones) s.allotted.loadWindow.rotate_keeps
  rw [rotated, State.loadWindow_zone, State.allotted_straps, State.allotted_heat]

end

end Sys2Proof.Machine
end

section
/-! PROOFS. A window's beginning, read from the state it is entered in and the state the crossing ends in (R46, R48). -/

namespace Sys2Proof.Machine

/-- What a window's beginning reads of the state the crossing found is still so in `b`, the state step 2 starts from. -/
structure State.Enters (s b : State) : Prop where
  runs : b.heat.supply = .running
  pending : b.heat.pending = s.heat.pending
  page : b.heat.page = s.heat.page
  start : b.heat.rotationStart = s.heat.rotationStart
  settings : b.settings = s.settings
  standing : b.load.standing = s.load.standing
  status : b.load.status = s.load.status
  ack : b.load.ack = s.load.ack
  straps : b.straps = s.straps
  line : b.line = s.line

/-- `t` holds what the window's beginning in `b` left. -/
structure State.Begun (b t : State) : Prop where
  zones : t.heat.zones = b.beginWindow.heat.zones
  page : t.heat.page = b.beginWindow.heat.page
  start : t.heat.rotationStart = b.beginWindow.heat.rotationStart
  load : t.load = b.beginWindow.load
  slots : ∀ k, k ≠ .status → t.line.queue.get k = b.beginWindow.line.queue.get k
  heating : t.heating = b.beginWindow.heating

/-- An offer leaves the slots of the other kinds. -/
theorem TxQueue.get_offer_other (q : TxQueue) {c : Content} {k : StationKind} (other : k ≠ c.kind) :
    (q.offer c).get k = q.get k := by
  unfold TxQueue.offer
  rw [TxQueue.get_nextPosition, TxQueue.get_set, if_neg other]

/-! ## Steps 2 and 3 -/

section
variable {s b t : State}

/-- The shed status and its acknowledgement after step 3 (R75). -/
def Load.settledPair (l : Load) (fitted : Nat) : ShedStatus × Ack :=
  match l.standing, l.status with
  | true, .shedding => (.shed, if fitted = 0 then .waiting else .awaitingDemand)
  | false, .shedding | false, .shed => (.none, .notDue)
  | _, _ => (l.status, l.ack)

theorem State.settleShed_load (s : State) :
    s.settleShed.load =
      { s.load with status := (s.load.settledPair s.straps.fitted).1, ack := (s.load.settledPair s.straps.fitted).2 } := by
  unfold State.settleShed Load.settledPair
  cases standing : s.load.standing with
  | true =>
    cases status : s.load.status with
    | none => simp only [← status]
    | shed => simp only [← status]
    | shedding =>
      dsimp only
      split_ifs <;> rfl
  | false =>
    cases status : s.load.status with
    | none => simp only [← status]
    | shed => rfl
    | shedding => rfl

/-- The station shed, its acknowledgement still to be offered. -/
def State.shedNow (s : State) : State := { s with load := { s.load with status := .shed, ack := .awaitingDemand } }

/-- A station without zones says its shed at once. -/
theorem State.settleShed_of_unfitted (standing : s.load.standing = true) (shedding : s.load.status = .shedding)
    (unfitted : s.straps.fitted = 0) :
    s.settleShed = s.shedNow.offerShedAck := by
  unfold State.settleShed State.shedNow
  simp only [standing, shedding, if_pos unfitted]

/-- Step 3 tells nothing but, in its slot, the SHED-ACK. -/
theorem State.settleShed_slot (s : State) {k : StationKind} (other : k ≠ .shedAck) :
    s.settleShed.line.queue.get k = s.line.queue.get k := by
  unfold State.settleShed
  dsimp only
  split
  · split_ifs
    · exact TxQueue.get_offer_other _ (c := .shedAck _) other
    · rfl
  all_goals rfl

/-! ## Step 6 -/

/-- The own demand that step 6 forms (R49). -/
def State.ownNext (s : State) : Nat := if s.heating.draws then s.heat.ownDemand else 0

/-- The total that step 6 forms (R63). -/
def State.totalNext (s : State) : Nat := s.ownNext + (s.demandTable.map (·.2)).sum

/-- The share that step 6 takes (R64, R65). -/
def State.shareNext (s : State) : Nat :=
  match s.heat.page with
  | some page => if s.heating.draws then shareOf page.capacity s.ownNext s.totalNext s.load.factor else 0
  | none => 0

/-- The station with its share taken, the DEMAND still to be offered. -/
def State.shared (s : State) : State :=
  { s with
    load := { s.load with ownDemand := s.ownNext, total := s.totalNext, share := s.shareNext, table := s.demandTable } }

theorem State.takeShare_eq (s : State) :
    s.takeShare =
      if s.straps.fitted = 0 then s.shared
      else s.shared.offer (.demand ⟨s.ownNext, s.heating, s.load.factor, s.totalNext⟩) := rfl

theorem State.takeShare_shared (s : State) : s.takeShare.load = s.shared.load := by
  rw [State.takeShare_eq]
  split_ifs <;> rfl

theorem State.shareNext_of_page {page : HeatPage} (applied : s.heat.page = some page) :
    s.shareNext = if s.heating.draws then shareOf page.capacity s.ownNext s.totalNext s.load.factor else 0 := by
  simp only [State.shareNext, applied]

theorem State.shareNext_of_no_page (absent : s.heat.page = none) : s.shareNext = 0 := by
  simp only [State.shareNext, absent]

theorem State.takeShare_newest (fitted : s.straps.fitted ≠ 0) :
    (s.takeShare.line.queue.get .demand).newest = some (.demand ⟨s.ownNext, s.heating, s.load.factor, s.totalNext⟩) := by
  rw [State.takeShare_eq, if_neg fitted]
  exact TxSlot.offered_newest _ _ _

theorem State.takeShare_line (unfitted : s.straps.fitted = 0) : s.takeShare.line = s.line := by
  rw [State.takeShare_eq, if_pos unfitted]
  rfl

theorem State.takeShare_slot (s : State) {k : StationKind} (other : k ≠ .demand) :
    s.takeShare.line.queue.get k = s.line.queue.get k := by
  rw [State.takeShare_eq]
  split_ifs
  · rfl
  · exact TxQueue.get_offer_other s.line.queue (c := .demand _) other

/-- The demand table, by the FRESH slots (R63). -/
theorem State.demandTable_eq (s : State) :
    s.demandTable =
      stations.filterMap fun n =>
        match (s.line.peers.get n).demand with
        | .fresh c _ => some (n, min 1200 c.demand)
        | _ => none := by
  unfold State.demandTable
  refine List.filterMap_congr fun n _ => ?_
  cases (s.line.peers.get n).demand with
  | fresh c since =>
    have bounded : (if Config.maxPeerDemand < c.demand then Config.maxPeerDemand else c.demand) = min 1200 c.demand := by
      unfold Config.maxPeerDemand
      split_ifs <;> omega
    exact congrArg (fun d => some (n, d)) bounded
  | _ => rfl

end

end Sys2Proof.Machine
end

section
/-! PROOFS. The eight steps of a window's beginning, part by part (R48 to R52, R63 to R66, R75). -/

namespace Sys2Proof.Machine

section
variable {b t : State}

/-! ## What stands as the window has begun -/

theorem State.readied_load (s : State) :
    s.readied.load =
      { s.load with status := (s.load.settledPair s.straps.fitted).1, ack := (s.load.settledPair s.straps.fitted).2 } := by
  have straps : s.applyHeatPage.straps = s.straps := State.straps_congr s.applyHeatPage_frame.identity
  rw [State.readied, State.settleShed_load, State.applyHeatPage_load, straps]

theorem State.applyHeatPage_line (s : State) : s.applyHeatPage.line = s.line :=
  (congrArg State.line s.applyHeatPage_rest).trans rfl

theorem State.beginWindow_line (s : State) : s.beginWindow.line = s.allotted.line :=
  (congrArg State.line s.allotted.loadWindow.rotate_keeps).trans rfl

/-- Outside the slots of DEMAND and SHED-ACK nothing is offered. -/
theorem State.beginWindow_demand_slot (s : State) (unfitted : s.straps.fitted = 0) :
    s.beginWindow.line.queue.get .demand = s.line.queue.get .demand := by
  have none : s.demanded.straps.fitted = 0 := (congrArg Straps.fitted s.readied_straps).trans unfitted
  rw [s.beginWindow_line, State.allotted, State.takeShare_line none]
  refine (s.applyHeatPage.settleShed_slot (k := .demand) nofun).trans ?_
  rw [s.applyHeatPage_line]

theorem State.Begun.load_eq (w : b.Begun t) :
    t.load =
      { b.readied.load with
        ownDemand := b.demanded.ownNext, total := b.demanded.totalNext, share := b.demanded.shareNext
        table := b.demanded.demandTable } :=
  (w.load.trans b.beginWindow_load).trans b.demanded.takeShare_shared

theorem State.Begun.heating_eq (w : b.Begun t) : t.heating = b.readied.heating := w.heating.trans b.beginWindow_heating

theorem State.Begun.page_eq (w : b.Begun t) : t.heat.page = b.pageNext :=
  (w.page.trans b.beginWindow_page).trans (congrArg Heat.page b.readied_heat)

/-! ## Steps 2 and 3 -/

theorem State.Begun.settles (w : b.Begun t) (runs : b.heat.supply = .running) : b.SettlesPageAndShed t := by
  refine ⟨w.page_eq, ?standing, ?pair, fun standing shedding unfitted => ?told⟩
  case standing =>
    rw [w.load_eq, State.readied_load]
  case pair =>
    rw [w.load_eq, State.readied_load]
    rfl
  case told =>
    have kept := State.applyHeatPage_load b
    have straps : b.applyHeatPage.straps = b.straps := State.straps_congr b.applyHeatPage_frame.identity
    have shed := State.settleShed_of_unfitted (s := b.applyHeatPage) (kept ▸ standing) (kept ▸ shedding) (straps ▸ unfitted)
    have running : b.applyHeatPage.windowRuns = true := by
      rw [State.windowRuns_iff, State.applyHeatPage_heat]
      exact runs
    have heating : b.readied.heating = b.applyHeatPage.shedNow.heating :=
      (congrArg State.heating shed).trans (State.heating_congr rfl rfl rfl rfl rfl)
    have newest := b.applyHeatPage.shedNow.offerShedAck_newest
    rw [← shed, ← heating, show b.applyHeatPage.shedNow.windowRuns = true from running] at newest
    have slot : t.line.queue.get .shedAck = b.readied.line.queue.get .shedAck := by
      rw [w.slots .shedAck nofun, b.beginWindow_line]
      exact b.demanded.takeShare_slot nofun
    rw [w.heating_eq]
    exact (congrArg TxSlot.newest slot).trans newest

/-! ## Steps 4 and 5 -/

theorem HeatPage.target_eq (page : HeatPage) (h : HeatingState) :
    page.target h = if h = .parkWarm then page.parkSetpoint else page.setpoint := by
  cases h <;> rfl

/-- A fitted zone as the window has begun. -/
theorem State.Begun.zone_eq (w : b.Begun t) {z : Fin 4} (fitted : b.straps.zoneFitted z = true) :
    t.heat.zones.get z =
      ({ b.demanded.heat.zones.get z with duty := dutyOf (b.allotted.allocation z) b.straps.rating } : Zone).setOutput 0
        (b.straps.offset z) := by
  rw [w.zones, State.beginWindow_zone, if_pos fitted]

/-- Its demand is the one of step 5, at every zone. -/
theorem State.Begun.demand_eq (w : b.Begun t) (z : Fin 4) :
    (t.heat.zones.get z).demand = (b.demanded.heat.zones.get z).demand := by
  rw [w.zones, State.beginWindow_zone]
  split_ifs <;> rfl

theorem State.Begun.demand_of_fitted (w : b.Begun t) {z : Fin 4} (fitted : b.straps.zoneFitted z = true) :
    (t.heat.zones.get z).demand =
      b.readied.demandOf t.heating ((b.heat.zones.get z).atBoundary true t.heating.draws) := by
  rw [w.demand_eq, State.demanded_zone, fitted, w.heating_eq]

/-- The zone's record, the demand, the duty and the output apart. -/
theorem State.Begun.zone_of_fitted (w : b.Begun t) {z : Fin 4} (fitted : b.straps.zoneFitted z = true) :
    t.heat.zones.get z =
      { (b.heat.zones.get z).atBoundary true t.heating.draws with
        demand := (t.heat.zones.get z).demand, duty := (t.heat.zones.get z).duty, out := (t.heat.zones.get z).out } := by
  rw [w.zone_eq fitted, State.demanded_zone, fitted, w.heating_eq]
  rfl

/-- The demand of a zone that is not REGULATING, and of one that is, under the page applied (R49). -/
theorem State.demandOf_of_idle {s : State} {r : Zone} (h : HeatingState) (idle : r.state ≠ .regulating) : s.demandOf h r = 0 := by
  unfold State.demandOf
  split
  next state _ _ => exact absurd state idle
  · rfl

theorem State.demandOf_of_regulating {s : State} {r : Zone} {page : HeatPage} {temperature : Int} (h : HeatingState)
    (state : r.state = .regulating) (applied : s.heat.page = some page) (read : r.temperature = some temperature) :
    s.demandOf h r = zoneDemand s.straps.rating page.band ((page.target h : Int) - temperature) := by
  simp only [State.demandOf, state, applied, read]

theorem State.Begun.regulates (w : b.Begun t) : b.RegulatesAndDemands t b.heat.zones.get := by
  intro z fitted
  have zone := w.zone_of_fitted fitted
  have state : (t.heat.zones.get z).state = ((b.heat.zones.get z).atBoundary true t.heating.draws).state := by rw [zone]
  refine ⟨state, by rw [zone]; rfl, by rw [zone]; rfl, by rw [zone]; rfl, by rw [zone]; rfl, fun idle => ?idle,
    fun page temperature error regulating applied read is => ?regulating⟩
  case idle =>
    rw [w.demand_of_fitted fitted]
    exact State.demandOf_of_idle _ (fun r => idle (state.trans r))
  case regulating =>
    have page_of : b.readied.heat.page = some page := by
      rw [State.readied_heat, ← w.page_eq]
      exact applied
    rw [w.demand_of_fitted fitted, State.demandOf_of_regulating _ (state.symm.trans regulating) page_of read, State.readied_straps,
      HeatPage.target_eq, ← is]
    rfl

/-! ## Step 6 -/

theorem Heat.ownDemand_eq (h : Heat) : h.ownDemand = (Sys2Proof.zones.map fun z => (h.zones.get z).demand).sum := rfl

theorem State.Begun.own_eq (w : b.Begun t) :
    t.load.ownDemand = if t.heating.draws then (Sys2Proof.zones.map fun z => (t.heat.zones.get z).demand).sum else 0 := by
  have demands : (Sys2Proof.zones.map fun z => (t.heat.zones.get z).demand) = Sys2Proof.zones.map fun z => (b.demanded.heat.zones.get z).demand :=
    List.map_congr_left fun z _ => w.demand_eq z
  rw [w.load_eq, demands, ← Heat.ownDemand_eq, w.heating_eq]
  rfl

theorem State.Begun.shares (w : b.Begun t) : b.TakesShare t := by
  have draws : b.demanded.heating = t.heating := w.heating_eq.symm
  have factor : b.demanded.load.factor = t.load.factor := by rw [w.load_eq]; rfl
  have own : b.demanded.ownNext = t.load.ownDemand := by rw [w.load_eq]
  have total : b.demanded.totalNext = t.load.total := by rw [w.load_eq]
  have share : t.load.share = b.demanded.shareNext := by rw [w.load_eq]
  have page : b.demanded.heat.page = t.heat.page := by
    rw [w.page_eq]
    exact congrArg Heat.page b.readied_heat
  refine ⟨w.own_eq, ?table, ?total, fun applied is => ?share, fun absent => ?noPage, fun fitted => ?told, fun unfitted => ?untold⟩
  case table =>
    have peers : b.demanded.line.peers = b.line.peers := congrArg (fun u => u.line.peers) b.readied_frame
    rw [w.load_eq, ← peers]
    exact State.demandTable_eq _
  case total =>
    rw [w.load_eq]
    rfl
  case share =>
    rw [share, State.shareNext_of_page (page.trans is), draws, own, total, factor]
    rfl
  case noPage =>
    rw [share, State.shareNext_of_no_page (page.trans absent)]
  case told =>
    have some : b.demanded.straps.fitted ≠ 0 := by
      rw [show b.demanded.straps = b.straps from b.readied_straps]
      exact fitted
    refine (congrArg TxSlot.newest (w.slots .demand nofun)).trans ?_
    rw [b.beginWindow_line, ← own, ← draws, ← factor, ← total]
    exact State.takeShare_newest some
  case untold =>
    exact (w.slots .demand nofun).trans (b.beginWindow_demand_slot unfitted)

end

end Sys2Proof.Machine
end

section
/-! PROOFS. The duties loaded and the rotation of a window's beginning (R50 to R52), and the crossings that begin one (R46). -/

namespace Sys2Proof.Machine

section
variable {s b t : State}

/-! ## Steps 7 and 8 -/

theorem State.rotates_congr (page : t.heat.page = s.heat.page) : t.rotates = s.rotates := by
  unfold State.rotates
  rw [page]

theorem State.allotted_page (s : State) : s.allotted.heat.page = s.pageNext :=
  (congrArg Heat.page s.allotted_heat).trans (congrArg Heat.page s.readied_heat)

theorem State.allotted_start (s : State) : s.allotted.heat.rotationStart = s.heat.rotationStart :=
  (congrArg Heat.rotationStart s.allotted_heat).trans ((congrArg Heat.rotationStart s.readied_heat).trans rfl)

theorem State.Begun.rotates_eq (w : b.Begun t) : t.rotates = b.allotted.rotates :=
  State.rotates_congr (w.page_eq.trans b.allotted_page.symm)

theorem State.Begun.demandAt_eq (w : b.Begun t) (n : Nat) : t.demandAt n = b.allotted.demandAt n := by
  unfold State.demandAt
  by_cases zone : n < 4
  · rw [dif_pos zone, dif_pos zone, w.demand_eq, State.allotted_heat]
  · rw [dif_neg zone, dif_neg zone]

theorem State.Begun.share_eq (w : b.Begun t) : t.load.share = b.allotted.load.share :=
  congrArg Load.share (w.load.trans b.beginWindow_load)

/-- A fitted zone's allocation, in terms of what the window has begun with. -/
theorem State.Begun.allocation_eq (w : b.Begun t) {i : Nat} {z : Fin 4} (inside : i < b.straps.fitted)
    (place : z.val = zoneInTurn t.rotates b.heat.rotationStart b.straps.fitted i) :
    b.allotted.allocation z =
      min (t.heat.zones.get z).demand
        (t.load.share -
          ((List.range i).map fun j => t.demandAt (zoneInTurn t.rotates b.heat.rotationStart b.straps.fitted j)).sum) := by
  have turns := State.allocation_in_turn (s := b.allotted) (i := i) (z := z)
  rw [State.allotted_straps, State.allotted_start, ← w.rotates_eq, ← w.share_eq, State.allotted_heat, ← w.demand_eq] at turns
  simp only [w.demandAt_eq]
  exact turns inside place

/-- The rotation start zone after step 8 (R52). -/
theorem State.rotate_start (s : State) :
    s.rotate.heat.rotationStart =
      if s.rotates then if s.heat.rotationStart.val + 1 < s.straps.fitted then s.heat.rotationStart + 1 else 0
      else s.heat.rotationStart := by
  unfold State.rotate
  rw [State.order_rotating]
  cases s.rotates <;> rfl

theorem State.Begun.loads (w : b.Begun t) : b.LoadsAndRotates t := by
  refine ⟨fun i z inside fitted place => ?duty, fun z fitted => ?out, ?start⟩
  case duty =>
    rw [← w.allocation_eq inside place, w.zone_eq fitted]
    rfl
  case out =>
    have zone := w.zone_eq fitted
    have slots := Zone.setOutput_out_iff
      ({ b.demanded.heat.zones.get z with duty := dutyOf (b.allotted.allocation z) b.straps.rating } : Zone)
      (slot := 0) (p := b.straps) (z := z) (by decide)
    have uncut : (b.demanded.heat.zones.get z).cut = false := by
      rw [State.demanded_zone, fitted]
      rfl
    rw [← zone] at slots
    rw [slots, zone]
    exact ⟨fun ⟨state, _, slot⟩ => ⟨state, slot⟩, fun ⟨state, slot⟩ => ⟨state, uncut, slot⟩⟩
  case start =>
    have start : t.heat.rotationStart = b.allotted.loadWindow.rotate.heat.rotationStart := w.start
    have turning : b.allotted.loadWindow.rotates = t.rotates := w.rotates_eq.symm
    have straps : b.allotted.loadWindow.straps = b.straps := b.allotted_straps
    have before : b.allotted.loadWindow.heat.rotationStart = b.heat.rotationStart := b.allotted_start
    rw [start, State.rotate_start, turning, straps, before]

/-- Steps 2 to 8, from the state step 2 starts from. -/
theorem State.Begun.begins (w : b.Begun t) (runs : b.heat.supply = .running) : b.BeginsWindow t b.heat.zones.get :=
  ⟨w.settles runs, w.regulates, w.shares, w.loads⟩

/-- What a window's beginning is said to do depends on what it reads of the state that the crossing found alone. -/
theorem State.Enters.begins (e : s.Enters b) {judged : Fin 4 → Zone} (begun : b.BeginsWindow t judged) :
    s.BeginsWindow t judged := by
  obtain ⟨settles, regulates, shares, loads⟩ := begun
  refine ⟨?_, ?_, ?_, ?_⟩
  · unfold State.SettlesPageAndShed at settles ⊢
    rwa [e.pending, e.settings, e.page, e.standing, e.status, e.ack, e.straps] at settles
  · unfold State.RegulatesAndDemands at regulates ⊢
    rwa [e.straps] at regulates
  · unfold State.TakesShare at shares ⊢
    rwa [e.line, e.straps] at shares
  · unfold State.LoadsAndRotates at loads ⊢
    rwa [e.straps, e.start] at loads

end

end Sys2Proof.Machine
end

section
/-! PROOFS. The crossings that begin a window, at a window start and at a boundary (R46, R48, R54). -/

namespace Sys2Proof.Machine

section
variable {s b t : State}

/-! ## What a beginning leaves -/

theorem State.settleShed_rows (s : State) : s.settleShed.rows = s.rows := by
  unfold State.settleShed
  dsimp only
  split
  · split_ifs <;> rfl
  all_goals rfl

theorem State.takeShare_rows (s : State) : s.takeShare.rows = s.rows := by
  rw [State.takeShare_eq]
  split_ifs <;> rfl

theorem State.beginWindow_rows (s : State) : s.beginWindow.rows = s.rows :=
  calc
    s.beginWindow.rows = s.allotted.rows := (congrArg State.rows s.allotted.loadWindow.rotate_keeps).trans rfl
    _ = s.readied.rows := s.demanded.takeShare_rows
    _ = s.applyHeatPage.rows := s.applyHeatPage.settleShed_rows
    _ = s.rows := (congrArg State.rows s.applyHeatPage_rest).trans rfl

/-- The heater's record beside the zones, the page and the start zone: slot 0 begins. -/
theorem State.beginWindow_heat (s : State) :
    s.beginWindow.heat =
      { s.heat with
        zones := s.beginWindow.heat.zones, page := s.pageNext, pending := s.heat.pending && s.settings.heat.isNone
        rotationStart := s.beginWindow.heat.rotationStart, slot := 0 } := by
  have turned := congrArg State.heat s.allotted.loadWindow.rotate_keeps
  have loaded : s.allotted.loadWindow.heat = { s.allotted.heat with zones := s.allotted.loadWindow.heat.zones, slot := 0 } := rfl
  have readied : s.allotted.heat = { s.readied.heat with zones := s.demanded.heat.zones } := s.allotted_heat
  rw [s.readied_heat] at readied
  rw [readied] at loaded
  rw [loaded] at turned
  have zones : s.beginWindow.heat.zones = s.allotted.loadWindow.heat.zones :=
    (congrArg (fun u => u.heat.zones) s.allotted.loadWindow.rotate_keeps).trans rfl
  rw [zones]
  exact turned

theorem State.beginWindow_idleTimer (s : State) : s.beginWindow.load.idleTimer = s.load.idleTimer :=
  calc
    s.beginWindow.load.idleTimer = s.allotted.load.idleTimer := congrArg Load.idleTimer s.beginWindow_load
    _ = s.readied.load.idleTimer := (congrArg Load.idleTimer s.demanded.takeShare_shared).trans rfl
    _ = s.load.idleTimer := (congrArg Load.idleTimer s.readied_load).trans rfl

/-- A crossing that begins a window from `b` leaves what the beginning left. -/
theorem State.Begun.of_same (same : State.SameButStatus b.beginWindow.timeCrossing t) : b.Begun t where
  zones := (congrArg Heat.zones same.heat).trans rfl
  page := (congrArg Heat.page same.heat).trans rfl
  start := (congrArg Heat.rotationStart same.heat).trans rfl
  load := same.load
  slots := fun _ other => same.slot _ other
  heating := State.heating_congr ((congrArg Heat.supply same.heat).trans rfl) ((congrArg Heat.mode same.heat).trans rfl)
    ((congrArg Heat.page same.heat).trans rfl) (congrArg Load.status same.load) same.option

/-! ## A window start -/

/-- The station as the tenth good crossing finds the supply RUNNING (R46, R69). -/
def State.windowStart (s : State) : State :=
  { s with heat := { s.heat with supply := .running, runCount := 0 }, load := { s.load with idleTimer := none } }

theorem State.enters_windowStart (s : State) : s.Enters s.windowStart :=
  ⟨rfl, rfl, rfl, rfl, rfl, rfl, rfl, rfl, rfl, rfl⟩

variable {rms : Nat} {peak : Quad Nat}

theorem State.takeCrossing_of_start (waits : s.heat.supply ≠ .running) (tenth : 10 ≤ s.heat.nextRun s.now) :
    s.takeCrossing rms peak = s.windowStart.beginWindow.timeCrossing := by
  unfold State.takeCrossing State.crossWaiting
  rw [(s.windowRuns_eq_false_iff).2 waits, if_neg Bool.false_ne_true, if_pos (show Config.startRun ≤ _ from tenth)]
  rfl

theorem State.takeCrossing_of_run (waits : s.heat.supply ≠ .running) (early : s.heat.nextRun s.now < 10) :
    s.takeCrossing rms peak = ({ s with heat := { s.heat with runCount := s.heat.nextRun s.now } } : State).timeCrossing := by
  unfold State.takeCrossing State.crossWaiting
  rw [(s.windowRuns_eq_false_iff).2 waits, if_neg Bool.false_ne_true, if_neg (show ¬Config.startRun ≤ _ from Nat.not_le.2 early)]

/-- The ninth good crossing before, and a good one now: the tenth. -/
theorem Heat.nextRun_of_ninth {h : Heat} {now : Nat} (ninth : h.runCount = 9)
    (good : ∃ last, h.lastCrossing = some last ∧ 140 ≤ now - last ∧ now - last ≤ 250) : h.nextRun now = 10 := by
  rw [Heat.nextRun_eq, if_pos ⟨good, by omega⟩, ninth]

end

/-- Settles O25: the run count by the spacing, and the window that the tenth crossing starts. -/
theorem tenGoodCrossingsStartWindow : Obligations.TenGoodCrossingsStartWindow := by
  unfold Obligations.TenGoodCrossingsStartWindow
  intro s rms peak running waits few
  refine ⟨fun ⟨good, ninth⟩ => ?tenth, fun ⟨good, begun, early⟩ => ?counted, fun spoilt => ?first⟩
  case tenth =>
    refine State.take_reaches running _ fun t same => ?_
    have frame := s.takeCrossing_frame rms peak
    have level : t.level = s.level := by rw [same.level, frame]
    have feed : t.feed = s.feed := by rw [same.feed, frame]
    have travel : t.travel = s.travel := by rw [same.travel, frame]
    have ring : t.ring = s.ring := by rw [same.ring, frame]
    rw [State.takeCrossing_of_start waits (Heat.nextRun_of_ninth ninth good).ge] at same
    have now : s.windowStart.beginWindow.now = s.now := by rw [s.windowStart.beginWindow_frame]; rfl
    have heat := same.heat
    unfold State.timeCrossing at heat
    dsimp only at heat
    rw [State.beginWindow_heat, now] at heat
    refine ⟨by rw [heat]; rfl, by rw [heat], by rw [heat]; rfl, ?idle, by rw [heat], by rw [heat]; rfl, ?factor, by rw [heat]; rfl,
      level, feed, travel, ?rows, ring⟩
    case idle => exact (congrArg Load.idleTimer same.load).trans s.windowStart.beginWindow_idleTimer
    case factor => exact (congrArg Load.factor same.load).trans s.windowStart.beginWindow_factor
    case rows => exact same.rows.trans s.windowStart.beginWindow_rows
  case counted =>
    have next : s.heat.nextRun s.now = s.heat.runCount + 1 := by rw [Heat.nextRun_eq, if_pos ⟨good, begun⟩]
    refine State.take_reaches running _ fun t same => ?_
    rw [State.takeCrossing_of_run waits (by omega), next] at same
    exact same
  case first =>
    have next : s.heat.nextRun s.now = 1 := by
      rw [Heat.nextRun_eq]
      refine if_neg fun ⟨⟨last, crossed, low, high⟩, counted⟩ => ?_
      rcases spoilt with fresh | spacing
      · exact counted fresh
      · have := spacing last crossed
        omega
    refine State.take_reaches running _ fun t same => ?_
    rw [State.takeCrossing_of_run waits (by omega), next] at same
    exact same

end Sys2Proof.Machine
end

section
/-! PROOFS. The window that ends judged zone by zone (R54), and the bounds that a window's beginning keeps to (R50, R51, R64, R66). -/

namespace Sys2Proof.Machine

/-! ## The bounds of a beginning -/

section
variable {b t : State}

theorem State.Begun.bounds (w : b.Begun t) (factor : b.load.factor ≤ 256) :
    t.load.share ≤ t.load.ownDemand ∧
      ∀ page, t.heat.page = some page →
        t.load.share ≤ page.capacity ∧
          (page.capacity < t.load.total → t.load.share ≤ page.capacity * t.load.ownDemand / t.load.total) := by
  have share : t.load.share = b.demanded.shareNext := by rw [w.load_eq]
  have own : t.load.ownDemand = b.demanded.ownNext := by rw [w.load_eq]
  have total : t.load.total = b.demanded.totalNext := by rw [w.load_eq]
  have page : b.demanded.heat.page = t.heat.page := by
    rw [w.page_eq]
    exact congrArg Heat.page b.readied_heat
  have shed : b.demanded.load.factor ≤ 256 := by
    rw [b.demanded_factor]
    exact factor
  rw [share, own, total]
  cases applied : t.heat.page with
  | none =>
    rw [State.shareNext_of_no_page (page.trans applied)]
    exact ⟨Nat.zero_le _, nofun⟩
  | some p =>
    obtain ⟨ownBound, capacityBound, partBound⟩ :=
      shareOf_le p.capacity b.demanded.ownNext b.demanded.totalNext _ shed (Nat.le_add_right _ _)
    rw [State.shareNext_of_page (page.trans applied)]
    by_cases draws : b.demanded.heating.draws = true
    · rw [if_pos draws]
      refine ⟨ownBound, fun q is => ?_⟩
      cases is
      exact ⟨capacityBound, partBound⟩
    · rw [if_neg draws]
      exact ⟨Nat.zero_le _, fun q _ => ⟨Nat.zero_le _, fun _ => Nat.zero_le _⟩⟩

theorem State.Begun.energy (w : b.Begun t) :
    ((Sys2Proof.zones.filter b.straps.zoneFitted).map fun z => (t.heat.zones.get z).duty * b.straps.rating).sum ≤ 50 * t.load.share := by
  have placed := b.allotted.energy_le b.straps.rating
  rw [State.allotted_straps, ← w.share_eq] at placed
  refine (congrArg List.sum (List.map_congr_left fun z inside => ?_)).trans_le placed
  obtain ⟨-, fitted⟩ := List.mem_filter.1 inside
  rw [w.zone_eq fitted]
  rfl

end

/-! ## The window that ends -/

section
variable {s b t : State} {rms : Nat} {peak : Quad Nat}

/-- A zone's record after its turn in step 1 (R54). -/
def Zone.openTurn (r : Zone) (fitted : Bool) : Zone :=
  if fitted && r.tested then
    if r.drew then { r with openCount := 0 }
    else if 3 ≤ r.openCount + 1 then r.trip .openElement
    else { r with openCount := r.openCount + 1 }
  else r

/-- Step 1 trips the zone. -/
def Zone.openTrips (r : Zone) (fitted : Bool) : Bool := fitted && r.tested && !r.drew && decide (3 ≤ r.openCount + 1)

theorem State.judgeOpen_eq (s : State) (z : Fin 4) :
    s.judgeOpen z =
      s.zoneTurn (fun z r => r.openTurn (s.straps.zoneFitted z)) (fun z r => r.openTrips (s.straps.zoneFitted z)) z := by
  unfold State.judgeOpen State.zoneTurn Zone.openTurn Zone.openTrips
  dsimp only
  by_cases tested : (s.straps.zoneFitted z && (s.zone z).tested) = true
  · rw [if_pos tested, if_pos tested, tested]
    by_cases drew : (s.zone z).drew = true
    · rw [if_pos drew, if_pos drew, drew]
      rfl
    · have idle : (s.zone z).drew = false := Bool.eq_false_iff.2 drew
      rw [if_neg drew, if_neg drew, idle]
      by_cases third : 3 ≤ (s.zone z).openCount + 1
      · rw [if_pos (show Config.openTripCount ≤ _ from third), if_pos third, decide_eq_true third]
        rfl
      · rw [if_neg (show ¬Config.openTripCount ≤ _ from third), if_neg third, decide_eq_false third]
        rfl
  · rw [if_neg tested, if_neg tested, Bool.eq_false_iff.2 tested]
    exact (s.setZone_self z).symm

theorem State.judgeSag_keeps (s : State) (rms : Nat) :
    s.judgeSag rms = { s with load := { s.load with factor := (s.judgeSag rms).load.factor } } := by
  unfold State.judgeSag
  split <;> rfl

theorem State.judgeSag_factor_le (rms : Nat) (high : s.load.factor ≤ 256) : (s.judgeSag rms).load.factor ≤ 256 := by
  cases applied : s.heat.page with
  | none =>
    rw [State.judgeSag_of_no_page rms applied]
    exact high
  | some page =>
    rw [State.judgeSag_factor_of_page rms applied]
    split_ifs <;> omega

/-- Some zone trips OPEN as the window is judged. -/
def State.opens (s : State) : Bool := zones.any fun z => (s.zone z).openTrips (s.straps.zoneFitted z)

/-- Step 1 changes the zones, the open row's mark of a trip and the shed factor. -/
theorem State.judgeWindow_eq (s : State) (rms : Nat) :
    s.judgeWindow rms =
      { s with
        heat := { s.heat with zones := .ofFn fun z => (s.zone z).openTurn (s.straps.zoneFitted z) }
        rows :=
          { s.rows with openRow := if s.opens then s.rows.openRow.map (·.setTripSeen) else s.rows.openRow }
        load := { s.load with factor := (s.judgeWindow rms).load.factor } } := by
  have turns : (s.forZones fun t z => t.judgeOpen z) =
      (s.mapZones fun z r => r.openTurn (s.straps.zoneFitted z)).noteIf s.opens := by
    refine State.forZones_eq (f := fun t z => t.judgeOpen z) (g := fun z r => r.openTurn (s.straps.zoneFitted z))
      (trips := fun z r => r.openTrips (s.straps.zoneFitted z)) fun t z identity _ => ?_
    have straps : t.straps = s.straps := State.straps_congr identity
    rw [State.judgeOpen_eq, straps]
  refine (State.judgeSag_keeps _ rms).trans ?_
  show ({ (s.forZones fun t z => t.judgeOpen z) with
    load := { (s.forZones fun t z => t.judgeOpen z).load with factor := (s.judgeWindow rms).load.factor } } : State) = _
  rw [turns, State.noteIf_eq]
  rfl

theorem State.timeCrossing_rows (s : State) : s.timeCrossing.rows = s.rows := rfl

/-- The station as step 2 of a boundary finds it. -/
def State.ended (s : State) (rms : Nat) (peak : Quad Nat) : State := (s.senseSlot peak).judgeWindow rms

theorem State.enters_ended (runs : s.heat.supply = .running) : s.Enters (s.ended rms peak) := by
  rw [State.ended, State.judgeWindow_eq]
  exact ⟨runs, rfl, rfl, rfl, rfl, rfl, rfl, rfl, rfl, rfl⟩

theorem State.senseSlot_zone (s : State) (peak : Quad Nat) (z : Fin 4) :
    (s.senseSlot peak).zone z = (s.heat.zones.get z).sensed (peak.get z) s.straps.rating s.heat.volts :=
  State.mapZones_zone _ z

theorem State.ended_zone (s : State) (rms : Nat) (peak : Quad Nat) (z : Fin 4) :
    (s.ended rms peak).heat.zones.get z =
      ((s.heat.zones.get z).sensed (peak.get z) s.straps.rating s.heat.volts).openTurn (s.straps.zoneFitted z) := by
  rw [State.ended, State.judgeWindow_eq, ← State.senseSlot_zone]
  exact quad_get_ofFn _ z

theorem State.ended_factor_le (high : s.load.factor ≤ 256) : (s.ended rms peak).load.factor ≤ 256 := by
  rw [State.ended, State.judgeWindow_factor]
  exact State.judgeSag_factor_le rms high

/-! ## A zone judged, as the statement says it -/

/-- Two records that a window's beginning takes alike. -/
def Zone.Alike (a b : Zone) : Prop :=
  a.state = b.state ∧ a.openCount = b.openCount ∧ a.temperature = b.temperature ∧ a.sensorFault = b.sensorFault

theorem Zone.tested_iff (r : Zone) : r.tested = true ↔ r.state = .regulating ∧ r.cut = false ∧ 5 ≤ r.duty := by
  unfold Zone.tested
  rw [Bool.and_eq_true, Bool.and_eq_true, beq_iff_eq, Bool.not_eq_true', decide_eq_true_iff, and_assoc]
  rfl

/-- A fitted zone's turn makes of it what the statement says, its cut and its output apart. -/
theorem Zone.openTurn_alike (r : Zone) (drew : Bool) :
    Zone.Alike (({ r with drew := drew } : Zone).openTurn true) (r.openJudged drew) := by
  unfold Zone.openTurn Zone.openJudged
  have tests := ({ r with drew := drew } : Zone).tested_iff
  by_cases tested : r.state = .regulating ∧ r.cut = false ∧ 5 ≤ r.duty
  · rw [if_pos tested, Bool.true_and, if_pos (tests.2 tested)]
    cases drew with
    | true => exact ⟨rfl, rfl, rfl, rfl⟩
    | false =>
      by_cases third : 3 ≤ r.openCount + 1
      · rw [if_neg (Nat.not_lt.2 third), if_neg Bool.false_ne_true, if_neg Bool.false_ne_true, if_pos third]
        exact ⟨rfl, rfl, rfl, rfl⟩
      · rw [if_pos (Nat.not_le.1 third), if_neg Bool.false_ne_true, if_neg Bool.false_ne_true, if_neg third]
        exact ⟨rfl, rfl, rfl, rfl⟩
  · rw [if_neg tested, Bool.true_and, if_neg fun h => tested (tests.1 h)]
    exact ⟨rfl, rfl, rfl, rfl⟩

/-- It trips exactly when its state changes. -/
theorem Zone.openTrips_iff (r : Zone) (fitted drew : Bool) :
    ({ r with drew := drew } : Zone).openTrips fitted = true ↔
      fitted = true ∧ (r.openJudged drew).state ≠ r.state := by
  have tests := ({ r with drew := drew } : Zone).tested_iff
  simp only [Zone.openTrips, Bool.and_eq_true, tests, Bool.not_eq_true', decide_eq_true_iff, and_assoc]
  unfold Zone.openJudged
  by_cases tested : r.state = .regulating ∧ r.cut = false ∧ 5 ≤ r.duty
  · rw [if_pos tested]
    obtain ⟨state, cut, duty⟩ := tested
    cases drew with
    | true => simp
    | false =>
      by_cases early : r.openCount + 1 < 3
      · simp [early]
        omega
      · simp [early, state, cut, duty]
        omega
  · rw [if_neg tested]
    simp only [ne_eq, not_true, and_false, iff_false]
    exact fun ⟨_, state, cut, duty, _⟩ => tested ⟨state, cut, duty⟩

theorem State.RegulatesAndDemands.of_alike {judged found : Fin 4 → Zone} (regulates : s.RegulatesAndDemands t found)
    (alike : ∀ z, s.straps.zoneFitted z = true → (found z).Alike (judged z)) : s.RegulatesAndDemands t judged := by
  intro z fitted
  obtain ⟨state, count, temperature, fault⟩ := alike z fitted
  have zone := regulates z fitted
  rwa [state, count, temperature, fault] at zone

/-- The current that the zone drew in its on-slots, as the statement says it. -/
theorem State.sensed_eq (drew : Fin 4 → Bool)
    (draws : ∀ z, drew z = true ↔
      (s.heat.zones.get z).drew = true ∨
        ((s.heat.zones.get z).out = true ∧ 1000 * s.straps.rating ≤ peak.get z * s.heat.volts)) (z : Fin 4) :
    (s.heat.zones.get z).sensed (peak.get z) s.straps.rating s.heat.volts = { s.heat.zones.get z with drew := drew z } := by
  have same : ((s.heat.zones.get z).sensed (peak.get z) s.straps.rating s.heat.volts).drew = drew z :=
    Bool.eq_iff_iff.2 ((Zone.sensed_drew_iff _ _ _ _).trans (draws z).symm)
  rw [Zone.sensed_eq, same]

/-- The row is marked exactly when a fitted zone's state changes in step 1. -/
theorem State.opens_iff (drew : Fin 4 → Bool)
    (sensed : ∀ z, (s.heat.zones.get z).sensed (peak.get z) s.straps.rating s.heat.volts =
      { s.heat.zones.get z with drew := drew z }) :
    (s.senseSlot peak).opens = true ↔
      ∃ z, s.straps.zoneFitted z = true ∧
        ((s.heat.zones.get z).openJudged (drew z)).state ≠ (s.heat.zones.get z).state := by
  refine any_zone_iff.trans (exists_congr fun z => ?_)
  rw [State.senseSlot_zone, sensed]
  exact Zone.openTrips_iff _ _ _

theorem State.ended_rows (s : State) (rms : Nat) (peak : Quad Nat) :
    (s.ended rms peak).rows =
      { s.rows with
        openRow := if (s.senseSlot peak).opens then s.rows.openRow.map (·.setTripSeen) else s.rows.openRow } := by
  rw [State.ended, State.judgeWindow_eq]
  rfl

theorem State.takeCrossing_ended (runs : s.heat.supply = .running) (last : 50 ≤ s.heat.slot + 1) :
    s.takeCrossing rms peak = (s.ended rms peak).beginWindow.timeCrossing := State.takeCrossing_at_boundary runs last

/-- The bounds, for either crossing that begins a window. -/
theorem State.Begun.share_and_energy (w : b.Begun t) (e : s.Enters b) (factor : b.load.factor ≤ 256)
    (heat : t.heat.supply = .running ∧ t.heat.slot = 0) :
    t.heat.supply = .running ∧ t.heat.slot = 0 ∧ t.load.share ≤ t.load.ownDemand ∧
      (∀ page, t.heat.page = some page →
        t.load.share ≤ page.capacity ∧
          (page.capacity < t.load.total → t.load.share ≤ page.capacity * t.load.ownDemand / t.load.total)) ∧
      ((Sys2Proof.zones.filter s.straps.zoneFitted).map fun z => (t.heat.zones.get z).duty * s.straps.rating).sum ≤
        50 * t.load.share := by
  obtain ⟨own, pages⟩ := w.bounds factor
  refine ⟨heat.1, heat.2, own, pages, ?_⟩
  rw [← e.straps]
  exact w.energy

/-- Slot 0 of a window begins under a running supply. -/
theorem State.begun_slot (runs : b.heat.supply = .running) (same : State.SameButStatus b.beginWindow.timeCrossing t) :
    t.heat.supply = .running ∧ t.heat.slot = 0 := by
  have heat := same.heat
  unfold State.timeCrossing at heat
  dsimp only at heat
  rw [State.beginWindow_heat] at heat
  rw [heat]
  exact ⟨runs, rfl⟩

end

/-- Settles O26: both crossings begin the window from the state that step 2 finds, the boundary's after the window that ended has
been judged. -/
theorem boundaryBoundsShareAndEnergy : Obligations.BoundaryBoundsShareAndEnergy := by
  unfold Obligations.BoundaryBoundsShareAndEnergy
  refine ⟨?bounds, ?start, ?boundary⟩
  case bounds =>
    intro s rms peak running factor begins
    refine State.take_reaches running _ fun t same => ?_
    rcases begins with ⟨runs, last⟩ | ⟨waits, ninth, good⟩
    · rw [State.takeCrossing_ended runs last] at same
      have enters : s.Enters (s.ended rms peak) := State.enters_ended runs
      have begun : (s.ended rms peak).Begun t := .of_same same
      exact begun.share_and_energy enters (State.ended_factor_le factor) (State.begun_slot enters.runs same)
    · rw [State.takeCrossing_of_start waits (Heat.nextRun_of_ninth ninth good).ge] at same
      have begun : s.windowStart.Begun t := .of_same same
      exact begun.share_and_energy s.enters_windowStart factor (State.begun_slot rfl same)
  case start =>
    intro s rms peak running waits ninth good
    refine State.take_reaches running _ fun t same => ?_
    rw [State.takeCrossing_of_start waits (Heat.nextRun_of_ninth ninth good).ge] at same
    have begun : s.windowStart.Begun t := .of_same same
    exact ⟨s.enters_windowStart.begins (begun.begins rfl), same.rows.trans s.windowStart.beginWindow_rows⟩
  case boundary =>
    intro s rms peak drew running runs last draws
    refine State.take_reaches running _ fun t same => ?_
    have frame := s.takeCrossing_frame rms peak
    have level : t.level = s.level := by rw [same.level, frame]
    have feed : t.feed = s.feed := by rw [same.feed, frame]
    have travel : t.travel = s.travel := by rw [same.travel, frame]
    have ring : t.ring = s.ring := by rw [same.ring, frame]
    have settings : t.settings = s.settings := by rw [same.settings, frame]
    rw [State.takeCrossing_ended runs last] at same
    have enters : s.Enters (s.ended rms peak) := State.enters_ended runs
    have sensed := State.sensed_eq (s := s) (peak := peak) drew draws
    have opens := State.opens_iff drew sensed
    have rows := same.rows
    rw [State.timeCrossing_rows, State.beginWindow_rows, State.ended_rows] at rows
    have begun : (s.ended rms peak).Begun t := .of_same same
    obtain ⟨settles, regulates, shares, loads⟩ := enters.begins (begun.begins enters.runs)
    refine ⟨⟨settles, regulates.of_alike fun z fitted => ?alike, shares, loads⟩, level, feed, travel, ring, settings,
      fun still => ?unmarked, fun trips => ?marked⟩
    case alike =>
      rw [State.ended_zone, sensed, fitted]
      exact Zone.openTurn_alike _ _
    case unmarked =>
      have closed : ¬(s.senseSlot peak).opens = true := fun h => by
        obtain ⟨z, fitted, changed⟩ := opens.1 h
        exact changed (still z fitted)
      rw [rows, if_neg closed]
    case marked =>
      rw [rows, if_pos (opens.2 trips)]
      rfl

end Sys2Proof.Machine
end
